-- ==== Sys2Proof/Word.lean ====
section
/-! DEFINITION. The index and word types of the LC-4824 (spec 00, Table 1-5 and "Numbering"). -/

namespace Sys2Proof

/-- A slot of the Lease Table. The handle the spec numbers 1 to 48 is the slot's index plus one. -/
abbrev Handle := Fin 48

/-- An output, and the channel that drives it: 0 to 23. -/
abbrev Output := Fin 24

/-- A supply rail: 0 to 3. -/
abbrev Rail := Fin 4

/-- A priority class: 0 critical to 3 deferrable. A lower number is a higher priority. -/
abbrev LeaseClass := Fin 4

/-- A client tag: 0 to 15. -/
abbrev Tag := Fin 16

/-- A 13-bit value of a frame. -/
abbrev Value := BitVec 13

/-- The number by which hosts name a slot: 1 to 48. -/
abbrev Handle.number (h : Handle) : Nat := h.val + 1

end Sys2Proof
end

