-- ==== Sys2Proof/Syntax.lean ====
section
/-! DEFINITION. The commands of the LC-4824: one constructor of `Instr` for each row of
spec/opcode_table.json, with the row's operands. -/

namespace Sys2Proof

/-- The two host ports (R155). -/
inductive Port where
  | a
  | b
deriving DecidableEq, Repr

/-- The port that is not this one. -/
def Port.other : Port → Port
  | .a => .b
  | .b => .a

/-- An edge of a port's SPI clock; on a rising edge the data-in pin is sampled (R156). -/
inductive Edge where
  | rising (dataIn : Bool)
  | falling
deriving DecidableEq, Repr

/-- What begins a cold reset: VDD below its range, or a fall of RESET (R145). -/
inductive ResetCause where
  | supply
  | resetPin
deriving DecidableEq, Repr

/-- The request fields of Table 12-1 but the command code, which the constructor names. -/
structure Fields where
  seq : Bool
  tag : Tag
  selector : BitVec 7
  cls : LeaseClass
  wait : Bool
  valueA : Value
  valueB : Value
deriving DecidableEq, Repr

/-- The 10 ms periods that end at a TERM_TIMER_TICK: bit i of `countdowns` is for slot i's countdown
(R63), bit r of `filters` for rail r's filter candidate (R34; logs 12 and 13). -/
structure TermTick where
  countdowns : BitVec 48
  filters : BitVec 4
deriving DecidableEq, Repr

/-- The commands. A constructor with a `Port` and `Fields` is the rise of that port's chip select
on a 56-bit frame of good CRC with the row's command code and these fields (R159). -/
inductive Instr where
  | poll (port : Port) (fields : Fields)
  | identify (port : Port) (fields : Fields)
  | request (port : Port) (fields : Fields)
  | release (port : Port) (fields : Fields)
  | renew (port : Port) (fields : Fields)
  | resize (port : Port) (fields : Fields)
  | forceEnd (port : Port) (fields : Fields)
  | lookupOutput (port : Port) (fields : Fields)
  | nextNotice (port : Port) (fields : Fields)
  | ackNotice (port : Port) (fields : Fields)
  | setPatience (port : Port) (fields : Fields)
  | setCap (port : Port) (fields : Fields)
  | readRail (port : Port) (fields : Fields)
  | capture (port : Port) (fields : Fields)
  | flip (port : Port) (fields : Fields)
  | readImage (port : Port) (fields : Fields)
  | readRow (port : Port) (fields : Fields)
  | loadStage (port : Port) (fields : Fields)
  | stageField (port : Port) (fields : Fields)
  | writeRow (port : Port) (fields : Fields)
  | reload (port : Port) (fields : Fields)
  | openPart (port : Port) (fields : Fields)
  | closePart (port : Port) (fields : Fields)
  | restart (port : Port) (fields : Fields)
  /-- A frame whose command code Table 12-3 does not name. -/
  | unknownCommand (port : Port) (code : BitVec 7) (fields : Fields)
  | chipSelectFall (port : Port)
  | frameLengthFail (port : Port)
  | frameCrcFail (port : Port)
  | faultFall (channel : Output)
  | faultRise (channel : Output)
  | trip (channel : Output)
  | retryDelayEnd (channel : Output)
  /-- Bit n of `due` is set when a 10 ms period of channel n's retry timer ends. -/
  | retryTimerTick (due : BitVec 24)
  | termTimerTick (due : TermTick)
  | patienceExpiry (handle : Handle)
  | lapse (handle : Handle)
  /-- The levels of RPRESr and RFULLr after the change. -/
  | healthInputChange (rail : Rail) (present full : Bool)
  | healthLevelTaken (rail : Rail)
  | imageCopy (port : Port)
  | rowRead
  /-- Whether the read-back of the row write agreed with the copy it programmed (R137). -/
  | writeRowCompletion (agrees : Bool)
  | coldResetBegin (cause : ResetCause)
  | coldResetEnd
  | clockEdge (port : Port) (edge : Edge)
deriving DecidableEq, Repr

end Sys2Proof
end

