-- ==== Sys2Proof/Decode.lean ====
section
/-! DEFINITION. The command a word of the opcode table spells. The table gives no row any bits, so
no word spells a command (log 6). The 56-bit frame layout of spec 11 is in Machine/Operands.lean. -/

namespace Sys2Proof

/-- The command that the table's bits of a word spell: none, since no row of the table has bits. -/
def decodeTableWord (_nbits _w : Nat) : Option Instr := none

end Sys2Proof
end

