-- ==== Sys2Proof/Config.lean ====
section
/-! DEFINITION. What the part fixes, and the values the spec leaves open. An `opaque` constant here
is a free value: nothing can be proved of it but its type. -/

namespace Sys2Proof.Config

/-- The part code IDENTIFY reports (R152, Table 1-5). -/
def partCode : Nat := 6680

/-- The revision of parts the manual describes (R152). -/
def revision : Nat := 1

/-- The cap after cold reset and RESTART (R25). -/
def fullCap : Nat := 8191

/-- The patience setting after cold reset, and the default of a BAD port row (R128, R155). -/
def defaultPatience : Nat := 100

/-- The condition an array row is left in by a write that did not end well (R139, R140). -/
inductive WriteRemnant where
  /-- The old content. -/
  | oldRow
  /-- The new values with a check value that agrees. -/
  | newRow
  /-- Content that does not check. -/
  | brokenRow
deriving DecidableEq, Repr, Inhabited

/-- FREE VALUE (log 7): which of the three conditions of R139 and R140, by the draw's number. -/
opaque writeRemnant : Nat → WriteRemnant

/-- FREE VALUE (log 9): the level of data out in the rest of an abandoned frame (R156), by the
draw's number. -/
opaque abandonedBit : Nat → Bool

/-- FREE VALUE (log 10): the handle field of a refusal that would name a handle its six bits cannot
hold (R8, R109 and Table 12-2), by the selector. -/
opaque unheldHandle : BitVec 7 → Fin 64

end Sys2Proof.Config
end

