-- ==== Sys2Proof/Machine/Rows.lean ====
section
/-! DEFINITION. The rows of the Profile Store: their fields (Table 9-1), conditions and defaults
(R126 to R128). The shadow and the nonvolatile array both are a `Profile`. -/

namespace Sys2Proof.Machine

/-- What a lapse of the output's lease does (R68). -/
inductive LapseAction where
  | off
  | hold
deriving DecidableEq, Repr

/-- The authority of a port (R163). -/
inductive Role where
  | full
  | lease
deriving DecidableEq, Repr

/-- The condition of a shadow row (R127). Of an array row, `good` says that it checks. -/
inductive Condition where
  | good
  | bad
deriving DecidableEq, Repr

/-- The fields of an output row (Table 9-1). -/
structure OutputRow where
  inUse : Bool
  rail : Rail
  ceiling : Nat
  lapse : LapseAction
  retryAllowance : Nat
  retryDelay : Nat
deriving DecidableEq, Repr

/-- The fields of a rail row (Table 9-1). -/
structure RailRow where
  nominal : Nat
  reduced : Nat
  reserve : Nat
  filter : Nat
deriving DecidableEq, Repr

/-- The fields of a port row (Table 9-1). -/
structure PortRow where
  role : Role
  quota : Nat
  patience : Nat
deriving DecidableEq, Repr

/-- A row with its condition (R127). -/
structure Row (α : Type) where
  cond : Condition
  vals : α
deriving DecidableEq, Repr

/-- The thirty rows: 0 to 23 the outputs, 24 to 27 the rails, 28 Port A and 29 Port B (R126). -/
structure Profile where
  outputs : Vector (Row OutputRow) 24
  rails : Vector (Row RailRow) 4
  portA : Row PortRow
  portB : Row PortRow
deriving DecidableEq, Repr

/-- A row named by its number (R126). -/
inductive RowId where
  | output (n : Output)
  | rail (r : Rail)
  | port (p : Port)
deriving DecidableEq, Repr

/-- A row with values for its kind: the copy a WRITE ROW programs (R137). -/
inductive RowWrite where
  | output (n : Output) (vals : OutputRow)
  | rail (r : Rail) (vals : RailRow)
  | port (p : Port) (vals : PortRow)
deriving DecidableEq, Repr

/-- The defaults of a BAD output row (R128). -/
def OutputRow.default : OutputRow :=
  { inUse := false, rail := 0, ceiling := 0, lapse := .off, retryAllowance := 0, retryDelay := 1 }

/-- The defaults of a BAD rail row (R128). -/
def RailRow.default : RailRow := { nominal := 0, reduced := 0, reserve := 0, filter := 0 }

/-- The defaults of a BAD port row with this role (R128). -/
def PortRow.default (role : Role) : PortRow :=
  { role := role, quota := 24, patience := Config.defaultPatience }

/-- The role a BAD port row takes (R128): Port A FULL; Port B LEASE, unless Port A's row is GOOD and
gives LEASE. `portA` is Port A's row when the default is set. -/
def defaultRole (portA : Row PortRow) : Port → Role
  | .a => .full
  | .b => if portA.cond = .good ∧ portA.vals.role = .lease then .full else .lease

/-- Thirty rows BAD with their defaults, as cold reset sets the shadow (R127, R128). -/
def Profile.allBad : Profile :=
  { outputs := Vector.replicate 24 ⟨.bad, OutputRow.default⟩
    rails := Vector.replicate 4 ⟨.bad, RailRow.default⟩
    portA := ⟨.bad, PortRow.default .full⟩
    portB := ⟨.bad, PortRow.default .lease⟩ }

/-- The port row of a port (rows 28 and 29). -/
def Profile.port (f : Profile) : Port → Row PortRow
  | .a => f.portA
  | .b => f.portB

/-- `f` with the port row of `p` replaced. -/
def Profile.setPort (f : Profile) (p : Port) (row : Row PortRow) : Profile :=
  match p with
  | .a => { f with portA := row }
  | .b => { f with portB := row }

/-- `f` with one output row replaced. -/
def Profile.setOutput (f : Profile) (n : Output) (row : Row OutputRow) : Profile :=
  { f with outputs := f.outputs.set n.val row n.isLt }

/-- `f` with one rail row replaced. -/
def Profile.setRail (f : Profile) (r : Rail) (row : Row RailRow) : Profile :=
  { f with rails := f.rails.set r.val row r.isLt }

/-- `f` with the row of `w` GOOD and holding its values (R138 step 1). -/
def Profile.write (f : Profile) : RowWrite → Profile
  | .output n v => f.setOutput n ⟨.good, v⟩
  | .rail r v => f.setRail r ⟨.good, v⟩
  | .port p v => f.setPort p ⟨.good, v⟩

/-- `f` with row `i` BAD and holding the defaults of R128, Port B's role by `portA`. -/
def Profile.spoil (f : Profile) : RowId → Profile
  | .output n => f.setOutput n ⟨.bad, OutputRow.default⟩
  | .rail r => f.setRail r ⟨.bad, RailRow.default⟩
  | .port p => f.setPort p ⟨.bad, PortRow.default (defaultRole f.portA p)⟩

/-- The row a write names. -/
def RowWrite.id : RowWrite → RowId
  | .output n _ => .output n
  | .rail r _ => .rail r
  | .port p _ => .port p

/-- The condition of a row. -/
def Profile.cond (f : Profile) : RowId → Condition
  | .output n => (f.outputs.get n).cond
  | .rail r => (f.rails.get r).cond
  | .port p => (f.port p).cond

/-- The values of a row, as a write of them. -/
def Profile.row (f : Profile) : RowId → RowWrite
  | .output n => .output n (f.outputs.get n).vals
  | .rail r => .rail r (f.rails.get r).vals
  | .port p => .port p (f.port p).vals

/-- The row of each number 0 to 29 (R126). -/
def RowId.ofFin (k : Fin 30) : RowId :=
  if h : k.val < 24 then .output ⟨k.val, h⟩
  else if h' : k.val < 28 then .rail ⟨k.val - 24, by omega⟩
  else if k.val = 28 then .port .a
  else .port .b

/-- The row a number names, if it names one (R126). -/
def RowId.ofNumber (k : Nat) : Option RowId :=
  if h : k < 30 then some (RowId.ofFin ⟨k, h⟩) else none

/-- The number of a row (R126). -/
def RowId.number : RowId → Nat
  | .output n => n.val
  | .rail r => 24 + r.val
  | .port .a => 28
  | .port .b => 29

/-- The bad-row count (R127). -/
def Profile.badRows (f : Profile) : Nat :=
  (List.finRange 30).countP (fun k => f.cond (RowId.ofFin k) = .bad)

/-- Whether output `n` is barred by this shadow (R97): its row BAD, not in use, or its rail's row
BAD. -/
def Profile.bars (f : Profile) (n : Output) : Bool :=
  let row := f.outputs.get n
  row.cond = .bad || !row.vals.inUse || (f.rails.get row.vals.rail).cond = .bad

end Sys2Proof.Machine
end

