-- ==== Sys2Proof/Machine/State.lean ====
section
/-! DEFINITION. The state of the LC-4824, as plain data, and the state after reset. -/

namespace Sys2Proof.Machine

/-- The modes (R143). -/
inductive Mode where
  | loading
  | setup
  | service
deriving DecidableEq, Repr

/-! ## Lease records -/

/-- A port and a tag: the party that holds a lease or is owed a notice. -/
structure Client where
  port : Port
  tag : Tag
deriving DecidableEq, Repr

/-- The nine notice reasons (R103). -/
inductive Reason where
  | granted
  | tripped
  | lapsedHeld
  | lapsed
  | notGranted
  | revoked
  | trippedOut
  | forced
  | takenOver
deriving DecidableEq, Repr

/-- A notice: its reason and the party it is owed to (R3). Its rank is its record's position in the
port's notice order. -/
structure Notice where
  reason : Reason
  owedTo : Client
deriving DecidableEq, Repr

/-- The fields written when a record is taken and kept through ENDED (R1). -/
structure Booking where
  output : Output
  rail : Rail
  cls : LeaseClass
  current : Nat
deriving DecidableEq, Repr

/-- A lease record (R1, Table 2-1): each state with the fields present in it. TRIPPED under DEVICE
has a constructor of its own, since it has no term and no countdown (R72). `countdown` is the Term
Timer's value, 0 when it has run out (R62). -/
inductive Record where
  | free
  | waiting (b : Booking) (holder : Client) (term countdown : Nat)
  | granted (b : Booking) (holder : Client) (term countdown retries : Nat)
      (notice : Option Notice)
  | tripped (b : Booking) (holder : Client) (term countdown retries : Nat)
      (notice : Option Notice)
  | deviceTripped (b : Booking) (retries : Nat) (notice : Option Notice)
  | held (b : Booking) (retries : Nat) (notice : Option Notice)
  | ended (b : Booking) (notice : Notice)
deriving DecidableEq, Repr

/-! ## Rail accounts -/

/-- The health levels (R25). -/
inductive Health where
  | normal
  | reduced
  | lost
deriving DecidableEq, Repr

/-- A filter candidate and the whole 10 ms units for which it has been shown (R34). -/
structure Candidate where
  level : Health
  shown : Nat
deriving DecidableEq, Repr

/-- A rail account (R25, Table 3-1) and the rail's two health inputs (R33). -/
structure Account where
  nominal : Nat
  reduced : Nat
  reserve : Nat
  filterTime : Nat
  cap : Nat
  health : Health
  candidate : Option Candidate
  committed : Nat
  waiting : List Handle
  grantOrder : List Handle
  present : Bool
  full : Bool
deriving DecidableEq, Repr

/-! ## Channels -/

/-- The states of a channel (R86, Table 6-2). -/
inductive ChannelState where
  | off
  | on
  | retry
  | barred
deriving DecidableEq, Repr

/-- A channel (R86, Table 6-1), its fault input and the trip raised on it and not yet taken (R88).
`retryTimer` is `none` when stopped and `some 0` when it has reached 0 and the end of the delay has
been reported and not yet taken (R93). -/
structure Channel where
  state : ChannelState
  enableHigh : Bool
  barred : Bool
  retryTimer : Option Nat
  faultLow : Bool
  tripRaised : Bool
deriving DecidableEq, Repr

/-! ## Snapshots -/

/-- The image of one record (R117): the record as it stood, its ranks (0 absent) and the stamp. -/
structure Image where
  handle : Handle
  record : Record
  recordRank : Nat
  noticeRank : Nat
  stamp : Value
deriving DecidableEq, Repr

/-- A filled buffer: its first handle and its images, in handle order (R116). -/
structure Buffer where
  first : Handle
  images : List Image
deriving DecidableEq, Repr

/-- The capture state with the back buffer (R116). The copy position is the number of images. -/
inductive Capture where
  | idle
  | copying (first : Handle) (count : Nat) (images : List Image)
  | complete (buffer : Buffer)
deriving DecidableEq, Repr

/-! ## Host ports -/

/-- The status codes (Table 12-4). -/
inductive Status where
  | fresh
  | done
  | granted
  | waiting
  | pending
  | started
  | unknownCommand
  | notPermitted
  | wrongMode
  | badOutput
  | barred
  | badValue
  | badHandle
  | notHolder
  | tooLate
  | occupied
  | duplicate
  | quota
  | tableFull
  | noRoom
  | notEmpty
  | noNotice
  | captureBusy
  | nothingCaptured
  | storeBusy
  | storeFail
  | badRange
deriving DecidableEq, Repr

/-- The intake indicator (R155). -/
inductive Intake where
  | taken
  | repeated
  | length
  | check
  | busy
deriving DecidableEq, Repr

/-- The part of the reply register a command's own rule gives. -/
structure Reply where
  status : Status
  handle : Nat
  valueA : Nat
  valueB : Nat
deriving DecidableEq, Repr

/-- The reply register (R155). -/
structure ReplyRegister where
  echoCode : BitVec 7
  echoSeq : Bool
  intake : Intake
  reply : Reply
deriving DecidableEq, Repr

/-- A frame being shifted (R156): the clock edges counted, the last 56 bits received, the copy of
the reply with its CRC, and how many of its bits have been driven. -/
structure Shifting where
  count : Nat
  received : BitVec 56
  reply : BitVec 56
  sent : Nat
deriving DecidableEq, Repr

/-- The frame shifter with the level of chip select (R155, R156). Chip select is high in `idle` and
low in the others. `unanswered` is a frame whose fall came during cold reset (R145); `abandoned` is
the rest of a frame that cold reset cut off (R156). The shifter is idle in both. -/
inductive Shifter where
  | idle
  | shifting (frame : Shifting)
  | unanswered
  | abandoned
deriving DecidableEq, Repr

/-- The slow commands (R161). -/
inductive SlowCommand where
  | writeRow
  | reload
deriving DecidableEq, Repr

/-- A host port (R155), with its data-out pin (`none`: high impedance), its notice order and ATTN
line (R102, R107) and its Snapshot Unit (R116; `front = none`: empty). -/
structure PortState where
  shifter : Shifter
  dataOut : Option Bool
  register : ReplyRegister
  lastSeq : Option Bool
  slow : Option SlowCommand
  patience : Nat
  noticeOrder : List Handle
  attnLow : Bool
  front : Option Buffer
  capture : Capture
deriving DecidableEq, Repr

/-- A row write in flight: the port that gave it and the copy of the staged fields (R137). -/
structure WriteInFlight where
  port : Port
  target : RowWrite
deriving DecidableEq, Repr

/-! ## The machine -/

/-- The state of the part. `pending` is the queue of commands waiting (the block's model), and
`freeDraws` counts the free values drawn (log 3); every other field is the spec's. -/
structure State where
  pending : List Instr
  supplyLow : Bool
  resetLow : Bool
  mode : Mode
  records : Vector Record 48
  changeCount : Value
  rails : Vector Account 4
  channels : Vector Channel 24
  portA : PortState
  portB : PortState
  shadow : Profile
  array : Profile
  staging : Vector Nat 13
  write : Option WriteInFlight
  load : Option (Fin 30)
  freeDraws : Nat
deriving DecidableEq, Repr

/-- The reasons the machine stops with a fault: none. The spec gives every command of the part an
effect, a refusal in the reply register or no effect, and no state in which the part stops. -/
inductive Fault where
deriving DecidableEq, Repr

/-- The reasons the model refuses a command. -/
inductive Refusal where
  /-- Raised by `exec` for a command that has no meaning yet, by its mnemonic; no arm raises it.
  Safe: it stops where the part goes on. -/
  | notModelled (mnemonic : String)
deriving DecidableEq, Repr

/-! ## Reset values -/

/-- A reply with this status and nothing else (R164: a field no rule gives is 0). -/
def Reply.only (st : Status) : Reply := { status := st, handle := 0, valueA := 0, valueB := 0 }

/-- The reply register as cold reset and RESTART clear it (R151, R166). -/
def ReplyRegister.cleared : ReplyRegister :=
  { echoCode := 0, echoSeq := false, intake := .taken, reply := Reply.only .fresh }

/-- A rail account in cold reset (R46), with its health inputs at the levels given. -/
def Account.coldReset (present full : Bool) : Account :=
  { nominal := 0, reduced := 0, reserve := 0, filterTime := 0, cap := Config.fullCap
    health := .lost, candidate := none, committed := 0, waiting := [], grantOrder := []
    present := present, full := full }

/-- A channel in cold reset (R101), with its fault input at the level given. -/
def Channel.coldReset (faultLow : Bool) : Channel :=
  { state := .off, enableHigh := false, barred := false, retryTimer := none
    faultLow := faultLow, tripRaised := false }

/-- A port in cold reset (R115, R125, R166), with its shifter and data-out pin as given. -/
def PortState.coldReset (shifter : Shifter) (dataOut : Option Bool) : PortState :=
  { shifter := shifter, dataOut := dataOut, register := ReplyRegister.cleared, lastSeq := none
    slow := none, patience := Config.defaultPatience, noticeOrder := [], attnLow := false
    front := none, capture := .idle }

/-- Power-on: cold reset in force with VDD below its range (R145). Where the spec gives no value
(the input pins, the nonvolatile array, the model's own fields) logs 2 to 5 name the choice. -/
def State.reset : State :=
  { pending := []
    supplyLow := true
    resetLow := false
    mode := .loading
    records := Vector.replicate 48 .free
    changeCount := 0
    rails := Vector.replicate 4 (Account.coldReset false false)
    channels := Vector.replicate 24 (Channel.coldReset false)
    portA := PortState.coldReset .idle none
    portB := PortState.coldReset .idle none
    shadow := Profile.allBad
    array := Profile.allBad
    staging := Vector.replicate 13 0
    write := none
    load := none
    freeDraws := 0 }

end Sys2Proof.Machine
end

