-- ==== Sys2Proof/Machine/Flags.lean ====
section
/-! DEFINITION. The fields a record shows in its state (Table 2-1), the numbers of the named values
(Tables 12-4 and 12-5) and the packed reply values and image parts (R170). -/

namespace Sys2Proof.Machine

/-! ## The fields of a record -/

/-- A record's holder: a port and tag, or DEVICE (Table 2-1). -/
inductive Holder where
  | client (c : Client)
  | device
deriving DecidableEq, Repr

/-- Output, rail, class and current: present in every state but FREE (Table 2-1). -/
def Record.booking? : Record → Option Booking
  | .free => none
  | .waiting b _ _ _ => some b
  | .granted b _ _ _ _ _ => some b
  | .tripped b _ _ _ _ _ => some b
  | .deviceTripped b _ _ => some b
  | .held b _ _ => some b
  | .ended b _ => some b

/-- The holder (Table 2-1). -/
def Record.holder? : Record → Option Holder
  | .free => none
  | .waiting _ c _ _ => some (.client c)
  | .granted _ c _ _ _ _ => some (.client c)
  | .tripped _ c _ _ _ _ => some (.client c)
  | .deviceTripped _ _ _ => some .device
  | .held _ _ _ => some .device
  | .ended _ _ => none

/-- The term (Table 2-1). -/
def Record.term? : Record → Option Nat
  | .waiting _ _ t _ => some t
  | .granted _ _ t _ _ _ => some t
  | .tripped _ _ t _ _ _ => some t
  | _ => none

/-- The countdown (Table 2-1): stopped when absent, run out at 0 (R62). -/
def Record.countdown? : Record → Option Nat
  | .waiting _ _ _ d => some d
  | .granted _ _ _ d _ _ => some d
  | .tripped _ _ _ d _ _ => some d
  | _ => none

/-- Retries left (Table 2-1). -/
def Record.retries? : Record → Option Nat
  | .granted _ _ _ _ k _ => some k
  | .tripped _ _ _ _ k _ => some k
  | .deviceTripped _ k _ => some k
  | .held _ k _ => some k
  | _ => none

/-- The notice (Table 2-1). -/
def Record.notice? : Record → Option Notice
  | .granted _ _ _ _ _ n => n
  | .tripped _ _ _ _ _ n => n
  | .deviceTripped _ _ n => n
  | .held _ _ n => n
  | .ended _ n => some n
  | _ => none

/-- Whether the record is FREE. -/
def Record.isFree : Record → Bool
  | .free => true
  | _ => false

/-- Whether the record is WAITING. -/
def Record.isWaiting : Record → Bool
  | .waiting _ _ _ _ => true
  | _ => false

/-- Whether the record is ENDED. -/
def Record.isEnded : Record → Bool
  | .ended _ _ => true
  | _ => false

/-- Whether the record is committing: GRANTED, TRIPPED or HELD (R2). -/
def Record.isCommitting : Record → Bool
  | .granted _ _ _ _ _ _ => true
  | .tripped _ _ _ _ _ _ => true
  | .deviceTripped _ _ _ => true
  | .held _ _ _ => true
  | _ => false

/-- Whether the record's channel is on: GRANTED or HELD (R87). -/
def Record.isOn : Record → Bool
  | .granted _ _ _ _ _ _ => true
  | .held _ _ _ => true
  | _ => false

/-- Whether the record is TRIPPED, under a port or under DEVICE. -/
def Record.isTripped : Record → Bool
  | .tripped _ _ _ _ _ _ => true
  | .deviceTripped _ _ _ => true
  | _ => false

/-- Whether the record is device-held (R2). -/
def Record.isDeviceHeld (r : Record) : Bool := r.holder? = some .device

/-- Whether the record covers output `o` (R2). -/
def Record.covers (r : Record) (o : Output) : Bool :=
  (r.isWaiting || r.isCommitting) && r.booking?.any (fun b => b.output = o)

/-- The party a final notice of this record is owed to (R5): the holder if a port, else the party of
the notice it carries. -/
def Record.owedParty? (r : Record) : Option Client :=
  match r.holder? with
  | some (.client c) => some c
  | _ => r.notice?.map (fun n => n.owedTo)

/-- The port the record counts against (R9). -/
def Record.countsAgainst (r : Record) : Option Port := r.owedParty?.map (fun c => c.port)

/-! ## Numbers of the named values -/

/-- The code of a status (Table 12-4). -/
def Status.code : Status → Nat
  | .fresh => 0
  | .done => 1
  | .granted => 2
  | .waiting => 3
  | .pending => 4
  | .started => 5
  | .unknownCommand => 6
  | .notPermitted => 7
  | .wrongMode => 8
  | .badOutput => 9
  | .barred => 10
  | .badValue => 11
  | .badHandle => 12
  | .notHolder => 13
  | .tooLate => 14
  | .occupied => 15
  | .duplicate => 16
  | .quota => 17
  | .tableFull => 18
  | .noRoom => 19
  | .notEmpty => 20
  | .noNotice => 21
  | .captureBusy => 22
  | .nothingCaptured => 23
  | .storeBusy => 24
  | .storeFail => 25
  | .badRange => 26

/-- The number of an intake value (Table 12-2). -/
def Intake.code : Intake → Nat
  | .taken => 0
  | .repeated => 1
  | .length => 2
  | .check => 3
  | .busy => 4

/-- The number of a notice reason (Table 12-5). -/
def Reason.number : Reason → Nat
  | .granted => 1
  | .tripped => 2
  | .lapsedHeld => 3
  | .lapsed => 4
  | .notGranted => 5
  | .revoked => 6
  | .trippedOut => 7
  | .forced => 8
  | .takenOver => 9

/-- The number of a record's state (Table 12-5). -/
def Record.stateNumber : Record → Nat
  | .free => 0
  | .waiting _ _ _ _ => 1
  | .granted _ _ _ _ _ _ => 2
  | .tripped _ _ _ _ _ _ => 3
  | .deviceTripped _ _ _ => 3
  | .held _ _ _ => 4
  | .ended _ _ => 5

/-- The number of the holder kind (Table 12-5). -/
def Record.holderKind (r : Record) : Nat :=
  match r.holder? with
  | none => 0
  | some (.client c) => match c.port with
    | .a => 1
    | .b => 2
  | some .device => 3

/-- The holder's tag, 0 when there is none (R170). -/
def Record.holderTag (r : Record) : Nat :=
  match r.holder? with
  | some (.client c) => c.tag.val
  | _ => 0

/-- The number of a port as the owed-to port (Table 12-5). -/
def portNumber : Port → Nat
  | .a => 0
  | .b => 1

/-- The number of a health level (Table 12-5). -/
def Health.number : Health → Nat
  | .normal => 0
  | .reduced => 1
  | .lost => 2

/-- The number of a mode (Table 12-5). -/
def Mode.number : Mode → Nat
  | .loading => 0
  | .setup => 1
  | .service => 2

/-- The number of a row condition (Table 12-5). -/
def Condition.number : Condition → Nat
  | .good => 0
  | .bad => 1

/-- The number of a role (Table 12-5). -/
def Role.number : Role → Nat
  | .full => 0
  | .lease => 1

/-- The number of a lapse action (Table 12-5). -/
def LapseAction.number : LapseAction → Nat
  | .off => 0
  | .hold => 1

/-! ## Packed values (R170) -/

/-- LOOKUP OUTPUT value B (Table 12-7). A FREE record stands for "no record covers the output". -/
def packLookup (r : Record) (barred : Bool) : Nat :=
  r.stateNumber * 1024 + r.holderKind * 256 + r.holderTag * 16
    + (r.booking?.map (fun b => b.cls.val)).getD 0 * 4 + barred.toNat

/-- READ RAIL part 1 value B (Table 12-7). -/
def packRail (health : Health) (waiters : Nat) : Nat := health.number * 64 + waiters

/-- NEXT NOTICE value A (Table 12-7). -/
def packNotice (n : Notice) : Nat := n.reason.number * 16 + n.owedTo.tag.val

/-- NEXT NOTICE value B (Table 12-7). -/
def packNoticeCount (output : Output) (entries : Nat) : Nat := output.val * 256 + entries

/-- IDENTIFY value B (Table 12-7). -/
def packIdentify (mode : Mode) (badRows : Nat) : Nat :=
  Config.revision * 512 + mode.number * 128 + badRows

/-- The two values of one part of an image (R122), packed as Table 12-8 has it: both ranks in part 0,
where R122's own table lists the first in part 2 and the second in part 3 (log 28). A part above 3
has none. -/
def Image.part (i : Image) (part : Nat) : Option (Nat × Nat) :=
  let r := i.record
  match part with
  | 0 => some (
      r.stateNumber * 1024 + r.holderKind * 256 + r.holderTag * 16
        + (r.booking?.map (fun b => b.cls.val * 4 + 2)).getD 0,
      i.recordRank * 64 + i.noticeRank)
  | 1 => some (
      (r.booking?.map (fun b => b.current)).getD 0,
      (r.booking?.map (fun b => 4096 + b.output.val * 128 + b.rail.val * 32)).getD 0
        + (r.retries?.map (fun k => 8 + k)).getD 0)
  | 2 => some (r.term?.getD 0, r.countdown?.getD 0)
  | 3 => some (
      (r.notice?.map (fun n =>
        n.reason.number * 32 + portNumber n.owedTo.port * 16 + n.owedTo.tag.val)).getD 0,
      i.stamp.toNat)
  | _ => none

end Sys2Proof.Machine
end

