-- ==== Sys2Proof/Machine/Operands.lean ====
section
/-! DEFINITION. The frame formats of spec 11: request and reply content, the CRC, the command codes,
and how a command reads its selector. -/

namespace Sys2Proof.Machine

/-! ## Commands (Table 12-3) -/

/-- The commands of Table 12-3 but POLL, which is never executed (R160). -/
inductive Command where
  | identify
  | request
  | release
  | renew
  | resize
  | forceEnd
  | lookupOutput
  | nextNotice
  | ackNotice
  | setPatience
  | setCap
  | readRail
  | capture
  | flip
  | readImage
  | readRow
  | loadStage
  | stageField
  | writeRow
  | reload
  | openPart
  | closePart
  | restart
deriving DecidableEq, Repr

/-- The code of POLL. -/
def pollCode : BitVec 7 := 0

/-- The code of a command (Table 12-3). -/
def Command.code : Command → BitVec 7
  | .identify => 1
  | .request => 16
  | .release => 17
  | .renew => 18
  | .resize => 19
  | .forceEnd => 20
  | .lookupOutput => 21
  | .nextNotice => 24
  | .ackNotice => 25
  | .setPatience => 26
  | .setCap => 32
  | .readRail => 33
  | .capture => 40
  | .flip => 41
  | .readImage => 42
  | .readRow => 48
  | .loadStage => 49
  | .stageField => 50
  | .writeRow => 51
  | .reload => 52
  | .openPart => 64
  | .closePart => 65
  | .restart => 66

/-- The command a code names, if Table 12-3 names it. -/
def Command.ofCode (code : BitVec 7) : Option Command :=
  match code.toNat with
  | 1 => some .identify
  | 16 => some .request
  | 17 => some .release
  | 18 => some .renew
  | 19 => some .resize
  | 20 => some .forceEnd
  | 21 => some .lookupOutput
  | 24 => some .nextNotice
  | 25 => some .ackNotice
  | 26 => some .setPatience
  | 32 => some .setCap
  | 33 => some .readRail
  | 40 => some .capture
  | 41 => some .flip
  | 42 => some .readImage
  | 48 => some .readRow
  | 49 => some .loadStage
  | 50 => some .stageField
  | 51 => some .writeRow
  | 52 => some .reload
  | 64 => some .openPart
  | 65 => some .closePart
  | 66 => some .restart
  | _ => none

/-- The supervisor commands (R163). -/
def Command.isSupervisor : Command → Bool
  | .openPart => true
  | .closePart => true
  | .restart => true
  | .forceEnd => true
  | .setCap => true
  | .writeRow => true
  | .reload => true
  | _ => false

/-- The modes a command is taken in (R144, Table 10-2). -/
def Command.takenIn (c : Command) (mode : Mode) : Bool :=
  match c with
  | .identify => true
  | .request | .release | .renew | .resize => mode = .service
  | .nextNotice | .ackNotice => mode = .service
  | .capture | .flip | .readImage => mode = .service
  | .lookupOutput | .readRail | .setPatience => mode = .setup || mode = .service
  | .readRow | .loadStage | .stageField => mode = .setup || mode = .service
  | .setCap => mode = .setup || mode = .service
  | .writeRow | .reload | .openPart => mode = .setup
  | .forceEnd | .closePart | .restart => mode = .service

/-! ## Frame content (Tables 12-1 and 12-2) -/

/-- The content of a request frame. -/
structure Content where
  code : BitVec 7
  fields : Fields
deriving DecidableEq, Repr

/-- The request fields of 48 content bits (R168, Table 12-1). -/
def Content.ofBits (w : BitVec 48) : Content :=
  { code := w.extractLsb' 41 7
    fields :=
      { seq := w.getLsbD 40
        tag := (w.extractLsb' 36 4).toFin
        selector := w.extractLsb' 29 7
        cls := (w.extractLsb' 27 2).toFin
        wait := w.getLsbD 26
        valueA := w.extractLsb' 13 13
        valueB := w.extractLsb' 0 13 } }

/-- The 48 content bits of a request (Table 12-1). -/
def Content.toBits (c : Content) : BitVec 48 :=
  c.code ++ BitVec.ofBool c.fields.seq ++ (BitVec.ofFin c.fields.tag : BitVec 4)
    ++ c.fields.selector ++ (BitVec.ofFin c.fields.cls : BitVec 2) ++ BitVec.ofBool c.fields.wait
    ++ c.fields.valueA ++ c.fields.valueB

/-- The 48 content bits of a reply (Table 12-2). -/
def ReplyRegister.toBits (r : ReplyRegister) : BitVec 48 :=
  r.echoCode ++ BitVec.ofBool r.echoSeq ++ BitVec.ofNat 3 r.intake.code
    ++ BitVec.ofNat 5 r.reply.status.code ++ BitVec.ofNat 6 r.reply.handle
    ++ BitVec.ofNat 13 r.reply.valueA ++ BitVec.ofNat 13 r.reply.valueB

/-! ## The CRC (R169) -/

/-- One content bit into the CRC register. -/
def crcStep (crc : BitVec 8) (bit : Bool) : BitVec 8 :=
  if crc.msb != bit then (crc <<< 1) ^^^ 0x2F#8 else crc <<< 1

/-- The content bits below bit `n`, the highest first, into the CRC register. -/
def crcBits (content : BitVec 48) : Nat → BitVec 8 → BitVec 8
  | 0, crc => crc
  | n + 1, crc => crcBits content n (crcStep crc (content.getLsbD n))

/-- The CRC byte of 48 content bits. -/
def crc8 (content : BitVec 48) : BitVec 8 := crcBits content 48 0xFF#8 ^^^ 0xFF#8

/-- A frame: the content with its CRC byte (R158). -/
def frameBits (content : BitVec 48) : BitVec 56 := content ++ crc8 content

/-- What a rise of chip select finds. -/
inductive Arrival where
  | badLength
  | badCrc
  | good (content : Content)
deriving DecidableEq, Repr

/-- What the bits a shifter has received amount to (R157, R158, R168). -/
def Shifting.arrival (f : Shifting) : Arrival :=
  if f.count ≠ 56 then .badLength
  else
    let content : BitVec 48 := f.received.extractLsb' 8 48
    if crc8 content = f.received.extractLsb' 0 8 then .good (Content.ofBits content) else .badCrc

/-! ## Selectors -/

/-- The record a handle selector names: 1 to 48 (R8). -/
def handleOf (sel : BitVec 7) : Option Handle :=
  if h : 1 ≤ sel.toNat ∧ sel.toNat ≤ 48 then some ⟨sel.toNat - 1, by omega⟩ else none

/-- The output an output selector names: 0 to 23 (R10). -/
def outputOf (sel : BitVec 7) : Option Output :=
  if h : sel.toNat < 24 then some ⟨sel.toNat, h⟩ else none

/-- The rail a rail selector names: 0 to 3 (R39). -/
def railOf (sel : BitVec 7) : Option Rail :=
  if h : sel.toNat < 4 then some ⟨sel.toNat, h⟩ else none

/-- The handle field of a refusal that carries the handle named (R8, R109), also for a selector of 49
to 63, which Table 12-2 leaves out of the field's range. A selector above 63 does not fit the field's
six bits, and the field is then a free value (log 10). -/
def namedHandle (sel : BitVec 7) : Nat :=
  if sel.toNat ≤ 63 then sel.toNat else (Config.unheldHandle sel).val

/-- The asking party of a request (R159). -/
def clientOf (p : Port) (f : Fields) : Client := { port := p, tag := f.tag }

end Sys2Proof.Machine
end

