-- ==== Sys2Proof/Machine/Ops.lean ====
section
/-! DEFINITION. The shared operations: reading and writing the parts of the state, the notice
orders, the rail accounts, the channels, and the three procedures of the Lease Table (R4 to R6) with
the scan (R52), revocation (R37) and limit change (R36). -/

namespace Sys2Proof.Machine

/-! ## Reading and writing the parts of the state -/

/-- Whether cold reset is in force (R145). -/
def State.inColdReset (s : State) : Bool := s.supplyLow || s.resetLow

/-- A record. -/
def State.record (s : State) (h : Handle) : Record := s.records.get h

/-- Write a record. -/
def State.setRecord (s : State) (h : Handle) (r : Record) : State :=
  { s with records := s.records.set h.val r h.isLt }

/-- A rail account. -/
def State.rail (s : State) (r : Rail) : Account := s.rails.get r

/-- Change a rail account. -/
def State.onRail (s : State) (r : Rail) (f : Account → Account) : State :=
  { s with rails := s.rails.set r.val (f (s.rail r)) r.isLt }

/-- A channel. -/
def State.channel (s : State) (n : Output) : Channel := s.channels.get n

/-- Change a channel. -/
def State.onChannel (s : State) (n : Output) (f : Channel → Channel) : State :=
  { s with channels := s.channels.set n.val (f (s.channel n)) n.isLt }

/-- A port. -/
def State.port (s : State) : Port → PortState
  | .a => s.portA
  | .b => s.portB

/-- Change a port. -/
def State.onPort (s : State) (p : Port) (f : PortState → PortState) : State :=
  match p with
  | .a => { s with portA := f s.portA }
  | .b => { s with portB := f s.portB }

/-- The shadow row of an output, as its values (R131). -/
def State.outputRow (s : State) (n : Output) : OutputRow := (s.shadow.outputs.get n).vals

/-- The shadow row of a port, as its values (R131). -/
def State.portRow (s : State) (p : Port) : PortRow := (s.shadow.port p).vals

/-- Advance the change count by one, wrapping after 8191 (R7). -/
def State.countChange (s : State) : State := { s with changeCount := s.changeCount + 1 }

/-! ## Searching the Lease Table -/

/-- The record that covers an output, if one does (R2). -/
def State.covering (s : State) (o : Output) : Option Handle :=
  (List.finRange 48).find? (fun h => (s.record h).covers o)

/-- The FREE record with the lowest handle, if one is FREE (R4). -/
def State.lowestFree (s : State) : Option Handle :=
  (List.finRange 48).find? (fun h => (s.record h).isFree)

/-- The number of records counted against a port (R9). -/
def State.counted (s : State) (p : Port) : Nat :=
  (List.finRange 48).countP (fun h => (s.record h).countsAgainst = some p)

/-- The number of records not FREE (R149). -/
def State.notFree (s : State) : Nat :=
  (List.finRange 48).countP (fun h => !(s.record h).isFree)

/-- The position of a handle in an order, counted from 1; 0 when it is not there. -/
def rankIn (order : List Handle) (h : Handle) : Nat :=
  if h ∈ order then order.idxOf h + 1 else 0

/-- The arrival or grant rank of a record, 0 when it has none (R32, R48). -/
def State.recordRank (s : State) (h : Handle) : Nat :=
  match (s.record h).booking? with
  | none => 0
  | some b =>
    if (s.record h).isWaiting then rankIn (s.rail b.rail).waiting h
    else if (s.record h).isCommitting then rankIn (s.rail b.rail).grantOrder h
    else 0

/-- The notice rank of a record, 0 when it carries no notice (R102). -/
def State.noticeRank (s : State) (h : Handle) : Nat :=
  match (s.record h).notice? with
  | none => 0
  | some n => rankIn (s.port n.owedTo.port).noticeOrder h

/-! ## Notice Unit -/

/-- Put a notice order in place and drive the ATTN line from it (R107). -/
def PortState.withOrder (ps : PortState) (order : List Handle) : PortState :=
  { ps with noticeOrder := order, attnLow := !order.isEmpty }

/-- Take a record out of the order of the notice it carries, if it carries one (R106). -/
def State.dropNotice (s : State) (h : Handle) : Option Notice → State
  | none => s
  | some n => s.onPort n.owedTo.port (fun ps => ps.withOrder (ps.noticeOrder.erase h))

/-- Set a notice on a record that carried `old`: the record leaves the old notice's place and joins
the end of the order of the new notice's port (R104, R105). -/
def State.postNotice (s : State) (h : Handle) (old : Option Notice) (new : Notice) : State :=
  (s.dropNotice h old).onPort new.owedTo.port (fun ps => ps.withOrder (ps.noticeOrder ++ [h]))

/-! ## Rail accounts -/

/-- The health ceiling (R27). -/
def Account.ceiling (a : Account) : Nat :=
  match a.health with
  | .normal => a.nominal
  | .reduced => a.reduced
  | .lost => 0

/-- The effective limit (R27). -/
def Account.limit (a : Account) : Nat := min a.nominal (min a.cap a.ceiling)

/-- The room for a class (R29). -/
def Account.room (a : Account) (c : LeaseClass) : Nat :=
  if c = 0 then a.limit - a.committed else a.limit - a.committed - a.reserve

/-- The health reading of the rail's inputs (R33). -/
def Account.reading (a : Account) : Health :=
  if a.present then (if a.full then .normal else .reduced) else .lost

/-- Load the profile part of an account from a rail row (R26). -/
def Account.loadProfile (a : Account) (row : RailRow) : Account :=
  { a with nominal := row.nominal, reduced := row.reduced, reserve := row.reserve,
           filterTime := row.filter }

/-- Take the candidate as the health level if it has been shown for the filter time (R34, R26). -/
def Account.judgeCandidate (a : Account) : Account :=
  match a.candidate with
  | none => a
  | some c => if a.filterTime ≤ c.shown then { a with health := c.level, candidate := none } else a

/-- Commit a record's current and put it last in the grant order (R28, R32). -/
def State.joinGrants (s : State) (h : Handle) (b : Booking) : State :=
  s.onRail b.rail (fun a =>
    { a with committed := a.committed + b.current, grantOrder := a.grantOrder ++ [h] })

/-- Give up a record's current and its place in the grant order (R28, R32). -/
def State.leaveGrants (s : State) (h : Handle) (b : Booking) : State :=
  s.onRail b.rail (fun a =>
    { a with committed := a.committed - b.current, grantOrder := a.grantOrder.erase h })

/-- Take a record out of its rail's waiting list (R51). -/
def State.leaveList (s : State) (h : Handle) (b : Booking) : State :=
  s.onRail b.rail (fun a => { a with waiting := a.waiting.erase h })

/-- Whether a record is a waiter of a lower-priority class than `c`. -/
def Record.waitsBehind (r : Record) (c : LeaseClass) : Bool :=
  r.isWaiting && r.booking?.any (fun b => c < b.cls)

/-- The list with a new waiter of class `c` placed: before the first waiter of a lower-priority
class, and so after every waiter of its own and of every higher-priority class (R49). -/
def State.placeWaiter (s : State) (h : Handle) (c : LeaseClass) : List Handle → List Handle
  | [] => [h]
  | x :: xs =>
    if (s.record x).waitsBehind c then h :: x :: xs else x :: s.placeWaiter h c xs

/-- Enter a record on its rail's waiting list (R49). -/
def State.enterList (s : State) (h : Handle) (b : Booking) : State :=
  s.onRail b.rail (fun a => { a with waiting := s.placeWaiter h b.cls a.waiting })

/-- The number of a rail's waiters whose class is `c` or of higher priority (R30, R31). -/
def State.blockers (s : State) (r : Rail) (c : LeaseClass) : Nat :=
  (s.rail r).waiting.countP (fun h =>
    (s.record h).isWaiting && (s.record h).booking?.any (fun b => b.cls ≤ c))

/-- The fit test (R30). -/
def State.fits (s : State) (r : Rail) (c : LeaseClass) (d : Nat) : Bool :=
  d ≤ (s.rail r).room c && s.blockers r c = 0

/-! ## Channels -/

/-- The channel enters ON; a low fault input raises a trip (R87, R88). -/
def Channel.turnOn (c : Channel) : Channel :=
  { c with state := .on, enableHigh := true, retryTimer := none, tripRaised := c.faultLow }

/-- A channel ON or in RETRY goes to OFF, its timer cancelled and a raised trip withdrawn (R87,
R88). A channel OFF or BARRED stays as it is. -/
def Channel.turnOff (c : Channel) : Channel :=
  match c.state with
  | .on | .retry =>
    { c with state := .off, enableHigh := false, retryTimer := none, tripRaised := false }
  | .off | .barred => c

/-- The channel goes to RETRY with its timer started (R90, R91). -/
def Channel.startRetry (c : Channel) (delay : Nat) : Channel :=
  { c with state := .retry, enableHigh := false, retryTimer := some delay, tripRaised := false }

/-- Put the barred flag computed in place: BARRED when set, OFF when clear (R97, R130). -/
def Channel.judgeBarred (c : Channel) (barred : Bool) : Channel :=
  { c with state := if barred then .barred else .off, enableHigh := false, barred := barred,
           retryTimer := none, tripRaised := false }

/-! ## The procedures of the Lease Table -/

/-- A record gives up what it holds on its rail: a committing record its current, its grant rank and
its channel; a WAITING record its place in the list (R5, R6). -/
def State.withdraw (s : State) (h : Handle) : State :=
  match (s.record h).booking? with
  | none => s
  | some b =>
    if (s.record h).isCommitting then (s.leaveGrants h b).onChannel b.output Channel.turnOff
    else if (s.record h).isWaiting then s.leaveList h b
    else s

/-- Free a record (R6), but for the scan its happening includes. -/
def State.freeRecord (s : State) (h : Handle) : State :=
  ((s.withdraw h).dropNotice h (s.record h).notice?).setRecord h .free

/-- End a record with a final reason (R5), but for the scan its happening includes. A device-held
record without a notice is freed. -/
def State.endRecord (s : State) (h : Handle) (reason : Reason) : State :=
  match (s.record h).booking?, (s.record h).owedParty? with
  | some b, some c =>
    ((s.withdraw h).postNotice h (s.record h).notice? ⟨reason, c⟩).setRecord h
      (.ended b ⟨reason, c⟩)
  | _, _ => s.freeRecord h

/-- Grant a waiter from the list (R56). -/
def State.grantWaiter (s : State) (h : Handle) (b : Booking) (c : Client) (term : Nat) : State :=
  ((((s.leaveList h b).joinGrants h b).onChannel b.output Channel.turnOn).postNotice h none
    ⟨.granted, c⟩).setRecord h
      (.granted b c term term (s.outputRow b.output).retryAllowance (some ⟨.granted, c⟩))

/-- The walk of a scan along the handles of a waiting list (R52). -/
def State.scanFrom (s : State) (r : Rail) : List Handle → State
  | [] => s
  | h :: hs =>
    match s.record h with
    | .waiting b c term _ =>
      if b.current ≤ (s.rail r).room b.cls then (s.grantWaiter h b c term).scanFrom r hs else s
    | _ => s

/-- One scan of a rail (R52). It is run in SERVICE (R54). -/
def State.scan (s : State) (r : Rail) : State :=
  if s.mode = .service then s.scanFrom r (s.rail r).waiting else s

/-- The committing records of a rail in the order in which a revocation takes them: class 3 first,
and the newest first within a class (R37). -/
def State.revocationOrder (s : State) (r : Rail) : List Handle :=
  [3, 2, 1, 0].flatMap (fun c : LeaseClass =>
    (s.rail r).grantOrder.reverse.filter (fun h =>
      (s.record h).booking?.any (fun b => b.cls = c)))

/-- End records along a revocation order until committed is at or below the limit (R37, R38). -/
def State.revokeFrom (s : State) (r : Rail) : List Handle → State
  | [] => s
  | h :: hs =>
    if (s.rail r).limit < (s.rail r).committed then (s.endRecord h .revoked).revokeFrom r hs
    else s

/-- Revoke on a rail (R37). -/
def State.revoke (s : State) (r : Rail) : State := s.revokeFrom r (s.revocationOrder r)

/-- Advance the change count if the waiting list of `r` has become other than in `before`, that is,
if the scan since then granted a waiter (R7, R36). -/
def State.countGrants (s before : State) (r : Rail) : State :=
  if (s.rail r).waiting = (before.rail r).waiting then s else s.countChange

/-- What a change of a rail's limit from `old` leads to, the change itself made (R36, Table 3-4):
the state after, and the number of records revoked (R39). -/
def State.limitChange (s : State) (r : Rail) (old : Nat) : State × Nat :=
  if s.mode = .service then
    if (s.rail r).limit < (s.rail r).committed then
      let revoked := s.revoke r
      let n := (s.rail r).grantOrder.length - (revoked.rail r).grantOrder.length
      let scanned := revoked.scan r
      (if n = 0 then scanned.countGrants s r else scanned.countChange, n)
    else if old < (s.rail r).limit then ((s.scan r).countGrants s r, 0)
    else (s, 0)
  else (s, 0)

/-! ## Replies -/

/-- A refusal with a status alone: handle 0, value A and value B 0. -/
def State.refuse (s : State) (st : Status) : State × Reply := (s, Reply.only st)

/-- The reply of a REQUEST or RESIZE refused NO_ROOM (R31). -/
def State.noRoom (s : State) (r : Rail) (c : LeaseClass) (handle : Nat) : Reply :=
  { status := .noRoom, handle := handle, valueA := (s.rail r).room c, valueB := s.blockers r c }

/-- Resolve the handle of RELEASE, RENEW or RESIZE against the asking party (R8): the record, or the
status of the refusal. -/
def State.resolve (s : State) (c : Client) (sel : BitVec 7) : Except Status Handle :=
  match handleOf sel with
  | none => .error .badHandle
  | some h =>
    if (s.record h).holder? = some (.client c) then .ok h
    else if (s.record h).notice?.any (fun n => n.owedTo = c) then .error .tooLate
    else if (s.record h).isFree then .error .badHandle
    else .error .notHolder

/-- The refusal of R8: the handle named, value A and value B 0. -/
def State.refuseHandle (s : State) (st : Status) (sel : BitVec 7) : State × Reply :=
  (s, { status := st, handle := namedHandle sel, valueA := 0, valueB := 0 })

/-- Draw a free value: the number of this draw, and the state with the draw counted (log 3). -/
def State.draw (s : State) : Nat × State := (s.freeDraws, { s with freeDraws := s.freeDraws + 1 })

/-- The reply that ends a port's slow command in place of PENDING (R161). -/
def State.endSlow (s : State) (p : Port) (reply : Reply) : State :=
  s.onPort p (fun ps =>
    { ps with register := { ps.register with reply := reply }, slow := none })

end Sys2Proof.Machine
end

