-- ==== Sys2Proof/Machine/Output.lean ====
section
/-! DEFINITION. The Output Stage: the fault inputs, trips, and the retry delay (R88 to R94). -/

namespace Sys2Proof.Machine

/-- A fall of FLTn: a trip is raised if the channel is ON (R88). Where the input is low already it
does not fall (log 18). -/
def Channel.faultFalls (c : Channel) : Channel :=
  if c.faultLow then c
  else { c with faultLow := true, tripRaised := c.tripRaised || c.state = .on }

/-- FAULT_FALL (R88). -/
def execFaultFall (n : Output) (s : State) : Host.Outcome State Fault Refusal :=
  .next (s.onChannel n Channel.faultFalls)

/-- FAULT_RISE (R100): the input is high; a trip already raised stands. -/
def execFaultRise (n : Output) (s : State) : Host.Outcome State Fault Refusal :=
  .next (s.onChannel n (fun c => { c with faultLow := false }))

/-- A trip with no retries left ends the record, with the scan of its rail (R92). -/
def State.tripOut (s : State) (h : Handle) (b : Booking) : State :=
  ((s.endRecord h .trippedOut).scan b.rail).countChange

/-- A trip that leaves retries: the channel goes to RETRY for the output's retry delay (R90,
R91). -/
def State.startRetry (s : State) (b : Booking) : State :=
  s.onChannel b.output (fun c => c.startRetry (s.outputRow b.output).retryDelay)

/-- A trip of the record `h` (R89, Table 6-3). -/
def State.tripRecord (s : State) (h : Handle) : State :=
  match s.record h with
  | .granted b _ _ _ 0 _ => s.tripOut h b
  | .granted b c t d (k + 1) n =>
    (((s.startRetry b).postNotice h n ⟨.tripped, c⟩).setRecord h
      (.tripped b c t d k (some ⟨.tripped, c⟩))).countChange
  | .held b 0 _ => s.tripOut h b
  | .held b (k + 1) n => ((s.startRetry b).setRecord h (.deviceTripped b k n)).countChange
  | _ => s

/-- TRIP (R89): a raised trip is taken at the Lease Table. A trip withdrawn has no effect (R88). -/
def execTrip (n : Output) (s : State) : Host.Outcome State Fault Refusal :=
  if (s.channel n).tripRaised then
    match s.covering n with
    | some h => .next (s.tripRecord h)
    | none => .next s
  else .next s

/-- A channel with its running retry timer lowered by one (R93). -/
def Channel.lowerTimer (c : Channel) : Channel :=
  { c with retryTimer := c.retryTimer.map (fun t => t - 1) }

/-- RETRY_TIMER_TICK (R93): each running timer whose 10 ms is up is lowered by one (log 12). -/
def execRetryTimerTick (due : BitVec 24) (s : State) : Host.Outcome State Fault Refusal :=
  .next { s with channels := Vector.ofFn (fun n : Output =>
    if due.getLsbD n.val then (s.channel n).lowerTimer else s.channel n) }

/-- The record after the end of its retry delay (R94). -/
def Record.restarted (r : Record) : Record :=
  match r with
  | .tripped b c t d k n => .granted b c t d k n
  | .deviceTripped b k n => .held b k n
  | other => other

/-- RETRY_DELAY_END (R94). It acts when the channel's timer has reached 0; a timer cancelled reports
nothing (R93). -/
def execRetryDelayEnd (n : Output) (s : State) : Host.Outcome State Fault Refusal :=
  if (s.channel n).retryTimer = some 0 then
    match s.covering n with
    | some h =>
      if (s.record h).isTripped then
        .next ((s.setRecord h (s.record h).restarted).onChannel n Channel.turnOn).countChange
      else .next s
    | none => .next s
  else .next s

end Sys2Proof.Machine
end

