-- ==== Sys2Proof/Machine/Budget.lean ====
section
/-! DEFINITION. The Budget Unit: SET CAP and READ RAIL once intake has passed them (R39, R44), and
the health filters (R33 to R35). -/

namespace Sys2Proof.Machine

/-- SET CAP (R39). -/
def cmdSetCap (_p : Port) (f : Fields) (s : State) : State × Reply :=
  match railOf f.selector with
  | none => s.refuse .badValue
  | some r =>
    let old := (s.rail r).limit
    let (after, n) := (s.onRail r (fun a => { a with cap := f.valueA.toNat })).limitChange r old
    (after, { status := .done, handle := 0, valueA := (after.rail r).limit, valueB := n })

/-- READ RAIL (R44, Table 3-7). -/
def cmdReadRail (_p : Port) (f : Fields) (s : State) : State × Reply :=
  match railOf f.selector with
  | none => s.refuse .badValue
  | some r =>
    let a := s.rail r
    match f.valueA.toNat with
    | 0 => (s, { status := .done, handle := 0, valueA := a.limit, valueB := a.committed })
    | 1 => (s, { status := .done, handle := 0, valueA := a.cap
                 valueB := packRail a.health a.waiting.length })
    | _ => s.refuse .badValue

/-- Take a rail's candidate as its health level, if it has been shown for the filter time, with the
limit change that follows (R34, R35). -/
def State.takeCandidate (s : State) (r : Rail) : State :=
  match (s.rail r).candidate with
  | none => s
  | some c =>
    if (s.rail r).filterTime ≤ c.shown then
      ((s.onRail r Account.judgeCandidate).limitChange r (s.rail r).limit).1
    else s

/-- The health filter's comparison at a change of the inputs (R34). -/
def State.judgeReading (s : State) (r : Rail) : State :=
  let a := s.rail r
  if a.reading = a.health then s.onRail r (fun a => { a with candidate := none })
  else if a.candidate.any (fun c => c.level = a.reading) then s
  else (s.onRail r (fun a => { a with candidate := some ⟨a.reading, 0⟩ })).takeCandidate r

/-- HEALTH_INPUT_CHANGE (R33, R34): the filter does not run in LOADING. -/
def execHealthInputChange (r : Rail) (present full : Bool) (s : State) :
    Host.Outcome State Fault Refusal :=
  let changed := s.onRail r (fun a => { a with present := present, full := full })
  .next (if s.mode = .loading then changed else changed.judgeReading r)

/-- HEALTH_LEVEL_TAKEN (R35): the candidate shown for the filter time becomes the health level. A
candidate not yet shown for so long, or abandoned, is not taken (log 17). -/
def execHealthLevelTaken (r : Rail) (s : State) : Host.Outcome State Fault Refusal :=
  .next (if s.mode = .loading then s else s.takeCandidate r)

/-- An account whose filter candidate has been shown for one 10 ms unit more (R34). -/
def Account.showCandidate (a : Account) : Account :=
  { a with candidate := a.candidate.map (fun c => { c with shown := c.shown + 1 }) }

/-- The time of the health filters runs: the candidate of each rail with its bit set has been shown
for one unit more (R34, log 13). The filters do not run in LOADING. -/
def State.runFilters (s : State) (filters : BitVec 4) : State :=
  if s.mode = .loading then s
  else
    { s with rails := Vector.ofFn (fun r : Rail =>
        if filters.getLsbD r.val then (s.rail r).showCandidate else s.rail r) }

end Sys2Proof.Machine
end

