-- ==== Sys2Proof/Machine/Lease.lean ====
section
/-! DEFINITION. What the Lease Table does with REQUEST, RELEASE, RENEW, RESIZE, FORCE END and LOOKUP
OUTPUT, once intake has passed them (R8 to R19, R40 to R43, R65 to R67, R76 to R79). -/

namespace Sys2Proof.Machine

/-! ## REQUEST -/

/-- The booking a REQUEST asks for; the rail is copied from the output's row (R4). -/
def State.asked (s : State) (f : Fields) (o : Output) : Booking :=
  { output := o, rail := (s.outputRow o).rail, cls := f.cls, current := f.valueA.toNat }

/-- The record a port-held grant of `b` writes (R14, R78): term, countdown, retry allowance. -/
def State.grantedRecord (s : State) (p : Port) (f : Fields) (b : Booking) : Record :=
  .granted b (clientOf p f) f.valueB.toNat f.valueB.toNat (s.outputRow b.output).retryAllowance none

/-- The record a claim of a TRIPPED hold writes (R79). -/
def State.claimedTripped (s : State) (p : Port) (f : Fields) (b : Booking) : Record :=
  .tripped b (clientOf p f) f.valueB.toNat f.valueB.toNat (s.outputRow b.output).retryAllowance none

/-- Steps 8 to 10 of Table 2-4 on slot `h`: grant (R14), wait (R15) or NO_ROOM (R16). -/
def State.requestNew (s : State) (p : Port) (f : Fields) (o : Output) (h : Handle) :
    State × Reply :=
  let b := s.asked f o
  if s.fits b.rail b.cls b.current then
    (((s.setRecord h (s.grantedRecord p f b)).joinGrants h b).onChannel o Channel.turnOn
        |>.countChange,
      { status := .granted, handle := h.number, valueA := b.current, valueB := 0 })
  else if f.wait then
    let entered := (s.enterList h b).setRecord h
      (.waiting b (clientOf p f) f.valueB.toNat (s.port p).patience)
    (entered.countChange,
      { status := .waiting, handle := h.number, valueA := b.current
        valueB := entered.recordRank h })
  else (s, s.noRoom b.rail b.cls 0)

/-- The old record of a claim gives way (R78 steps 1 and 2): it leaves the grant order, and is ended
TAKEN_OVER if it carries a notice and freed if it does not. Its channel is not touched. -/
def State.giveWay (s : State) (old : Handle) (b : Booking) : State :=
  match (s.record old).notice? with
  | some n =>
    ((s.leaveGrants old b).postNotice old (some n) ⟨.takenOver, n.owedTo⟩).setRecord old
      (.ended b ⟨.takenOver, n.owedTo⟩)
  | none => (s.leaveGrants old b).setRecord old .free

/-- A claim that fits is carried out (R78, R79). The FREE record of step 6 of Table 2-4 is `h0`; the
record taken is the lowest FREE one after the old record has given way, which may be the old record's
own slot. A FORCE END of that handle then ends the new lease, as R18 step 4 has it; R22 would have it
refused (log 27). -/
def State.handOver (s : State) (p : Port) (f : Fields) (o : Output) (old : Handle) (held : Booking)
    (h0 : Handle) : State × Reply :=
  let b := s.asked f o
  let gone := s.giveWay old held
  let h := gone.lowestFree.getD h0
  let record :=
    if (s.record old).isTripped then s.claimedTripped p f b else s.grantedRecord p f b
  ((((gone.setRecord h record).joinGrants h b).scan b.rail).countChange,
    { status := .granted, handle := h.number, valueA := b.current, valueB := old.number })

/-- A claim (R77): at or below the held current it fits untested; above it, the increase is
tested. -/
def State.requestClaim (s : State) (p : Port) (f : Fields) (o : Output) (old h0 : Handle) :
    State × Reply :=
  let b := s.asked f o
  match (s.record old).booking? with
  | none => (s, s.noRoom b.rail b.cls 0)
  | some held =>
    if b.current ≤ held.current || s.fits b.rail b.cls (b.current - held.current) then
      s.handOver p f o old held h0
    else (s, s.noRoom b.rail b.cls 0)

/-- Steps 5 to 7 of Table 2-4 (R13): the quota, a FREE record, and whether the request is a claim of
the device-held record `old`. -/
def State.requestAdmit (s : State) (p : Port) (f : Fields) (o : Output) (old : Option Handle) :
    State × Reply :=
  if (s.portRow p).quota ≤ s.counted p then s.refuse .quota
  else
    match s.lowestFree with
    | none => s.refuse .tableFull
    | some h =>
      match old with
      | none => s.requestNew p f o h
      | some old => s.requestClaim p f o old h

/-- REQUEST: steps 1 to 4 of Table 2-4 (R10 to R12), and then the rest. -/
def cmdRequest (p : Port) (f : Fields) (s : State) : State × Reply :=
  match outputOf f.selector with
  | none => s.refuse .badOutput
  | some o =>
    if (s.channel o).barred then s.refuse .barred
    else if f.valueA.toNat = 0 ∨ (s.outputRow o).ceiling < f.valueA.toNat ∨ f.valueB.toNat = 0 then
      s.refuse .badValue
    else
      match s.covering o with
      | none => s.requestAdmit p f o none
      | some h =>
        match (s.record h).holder? with
        | some (.client c) =>
          (s, { status := if c = clientOf p f then .duplicate else .occupied
                handle := h.number, valueA := 0, valueB := 0 })
        | _ => s.requestAdmit p f o (some h)

/-! ## RELEASE -/

/-- RELEASE (R17). -/
def cmdRelease (p : Port) (f : Fields) (s : State) : State × Reply :=
  match s.resolve (clientOf p f) f.selector with
  | .error st => s.refuseHandle st f.selector
  | .ok h =>
    match (s.record h).booking? with
    | none => s.refuseHandle .badHandle f.selector
    | some b =>
      (((s.freeRecord h).scan b.rail).countChange,
        { status := .done, handle := h.number, valueA := 0, valueB := 0 })

/-! ## RENEW -/

/-- The term after a RENEW: value B, or the term held when value B is 0 (R66, R67). -/
def renewedTerm (f : Fields) (term : Nat) : Nat := if f.valueB.toNat = 0 then term else f.valueB.toNat

/-- RENEW (R65): R66 for a GRANTED or TRIPPED record, R67 for a WAITING one. -/
def cmdRenew (p : Port) (f : Fields) (s : State) : State × Reply :=
  match s.resolve (clientOf p f) f.selector with
  | .error st => s.refuseHandle st f.selector
  | .ok h =>
    match s.record h with
    | .waiting b c term _ =>
      let patience := (s.port p).patience
      ((s.setRecord h (.waiting b c (renewedTerm f term) patience)).countChange,
        { status := .done, handle := h.number, valueA := patience, valueB := 0 })
    | .granted b c term _ _ n =>
      let term' := renewedTerm f term
      let allowance := (s.outputRow b.output).retryAllowance
      ((s.setRecord h (.granted b c term' term' allowance n)).countChange,
        { status := .done, handle := h.number, valueA := term', valueB := allowance })
    | .tripped b c term _ _ n =>
      let term' := renewedTerm f term
      let allowance := (s.outputRow b.output).retryAllowance
      ((s.setRecord h (.tripped b c term' term' allowance n)).countChange,
        { status := .done, handle := h.number, valueA := term', valueB := allowance })
    | _ => s.refuseHandle .notHolder f.selector

/-! ## RESIZE -/

/-- A booking with another current. -/
def Booking.withCurrent (b : Booking) (current : Nat) : Booking := { b with current := current }

/-- A record with another current, and nothing else changed (R40). -/
def Record.withCurrent (r : Record) (current : Nat) : Record :=
  match r with
  | .free => .free
  | .waiting b c t d => .waiting (b.withCurrent current) c t d
  | .granted b c t d k n => .granted (b.withCurrent current) c t d k n
  | .tripped b c t d k n => .tripped (b.withCurrent current) c t d k n
  | .deviceTripped b k n => .deviceTripped (b.withCurrent current) k n
  | .held b k n => .held (b.withCurrent current) k n
  | .ended b n => .ended (b.withCurrent current) n

/-- RESIZE of a WAITING record to another current (R43): the asked current is replaced, the rail is
scanned, and the reply is as the record stands after the scan. -/
def State.resizeWaiter (s : State) (h : Handle) (b : Booking) (current : Nat) : State × Reply :=
  let after := (s.setRecord h ((s.record h).withCurrent current)).scan b.rail
  (after.countChange,
    if (after.record h).isWaiting then
      { status := .waiting, handle := h.number, valueA := current, valueB := after.recordRank h }
    else { status := .granted, handle := h.number, valueA := current, valueB := 0 })

/-- RESIZE of a committing record to a lower current (R41). -/
def State.resizeLower (s : State) (h : Handle) (b : Booking) (current : Nat) : State × Reply :=
  let lowered := (s.setRecord h ((s.record h).withCurrent current)).onRail b.rail (fun a =>
    { a with committed := a.committed - (b.current - current) })
  ((lowered.scan b.rail).countChange,
    { status := .done, handle := h.number, valueA := current, valueB := 0 })

/-- RESIZE of a committing record to a higher current (R42). -/
def State.resizeRaise (s : State) (h : Handle) (b : Booking) (current : Nat) : State × Reply :=
  if s.fits b.rail b.cls (current - b.current) then
    let raised := (s.setRecord h ((s.record h).withCurrent current)).onRail b.rail (fun a =>
      { a with committed := a.committed + (current - b.current) })
    (raised.countChange, { status := .done, handle := h.number, valueA := current, valueB := 0 })
  else (s, s.noRoom b.rail b.cls h.number)

/-- RESIZE (R40). To the present current it writes what stands and runs no scan, in every state
(log 15). -/
def cmdResize (p : Port) (f : Fields) (s : State) : State × Reply :=
  match s.resolve (clientOf p f) f.selector with
  | .error st => s.refuseHandle st f.selector
  | .ok h =>
    match (s.record h).booking? with
    | none => s.refuseHandle .badHandle f.selector
    | some b =>
      let current := f.valueA.toNat
      if current = 0 ∨ (s.outputRow b.output).ceiling < current then
        s.refuseHandle .badValue f.selector
      else if current = b.current then
        (s.countChange, { status := .done, handle := h.number, valueA := current, valueB := 0 })
      else if (s.record h).isWaiting then s.resizeWaiter h b current
      else if current < b.current then s.resizeLower h b current
      else s.resizeRaise h b current

/-! ## FORCE END -/

/-- FORCE END (R18). Its refusals carry no handle, since its rule gives none (R164, log 16). -/
def cmdForceEnd (_p : Port) (f : Fields) (s : State) : State × Reply :=
  match handleOf f.selector with
  | none => s.refuse .badHandle
  | some h =>
    match (s.record h).booking? with
    | none => s.refuse .badHandle
    | some b =>
      if (s.record h).isEnded then s.refuse .tooLate
      else
        let ended := s.endRecord h .forced
        ((ended.scan b.rail).countChange,
          { status := .done, handle := h.number, valueA := 0
            valueB := (ended.record h).isEnded.toNat })

/-! ## LOOKUP OUTPUT -/

/-- LOOKUP OUTPUT (R19). -/
def cmdLookupOutput (_p : Port) (f : Fields) (s : State) : State × Reply :=
  match outputOf f.selector with
  | none => s.refuse .badOutput
  | some o =>
    let barred := (s.channel o).barred
    match s.covering o with
    | none => (s, { status := .done, handle := 0, valueA := 0, valueB := packLookup .free barred })
    | some h =>
      (s, { status := .done, handle := h.number
            valueA := ((s.record h).booking?.map (fun b => b.current)).getD 0
            valueB := packLookup (s.record h) barred })

end Sys2Proof.Machine
end

