-- ==== Sys2Proof/Machine/Store.lean ====
section
/-! DEFINITION. The Profile Store: the staging record and the profile commands once intake has
passed them (R132 to R137, R141), the load (R129, R130) and the completion of a row write (R138,
R139). -/

namespace Sys2Proof.Machine

/-! ## Fields by number (Table 12-6) -/

/-- A field of the staging record (R132). -/
def State.staged (s : State) (k : Fin 13) : Nat := s.staging.get k

/-- The field numbers of a row's kind, in order (Table 12-6). -/
def RowId.fieldNumbers : RowId → List (Fin 13)
  | .output _ => [0, 1, 2, 3, 4, 5]
  | .rail _ => [6, 7, 8, 9]
  | .port _ => [10, 11, 12]

/-- The fields of a row by number, as whole numbers (R126, Table 12-6). -/
def RowWrite.fields : RowWrite → List (Fin 13 × Nat)
  | .output _ v =>
    [(0, v.inUse.toNat), (1, v.rail.val), (2, v.ceiling), (3, v.lapse.number),
      (4, v.retryAllowance), (5, v.retryDelay)]
  | .rail _ v => [(6, v.nominal), (7, v.reduced), (8, v.reserve), (9, v.filter)]
  | .port _ v => [(10, v.role.number), (11, v.quota), (12, v.patience)]

/-- The value of a row's field by number, if the field is one of the row's kind (R135). -/
def RowWrite.field? (w : RowWrite) (k : Nat) : Option Nat :=
  (w.fields.find? (fun e => e.1.val = k)).map (fun e => e.2)

/-- The range of each field as WRITE ROW tests it (Tables 9-1 and 12-6). -/
def fieldInRange (k : Fin 13) (v nominal : Nat) : Bool :=
  match k with
  | 0 => v ≤ 1
  | 1 => v ≤ 3
  | 2 => v ≤ 8191
  | 3 => v ≤ 1
  | 4 => v ≤ 7
  | 5 => 1 ≤ v && v ≤ 255
  | 6 => v ≤ 8191
  | 7 => v ≤ nominal
  | 8 => v ≤ 8191
  | 9 => v ≤ 15
  | 10 => v ≤ 1
  | 11 => v ≤ 48
  | 12 => 1 ≤ v && v ≤ 8191

/-- The first staged field of a row's kind that is out of range (R136 step 3). -/
def State.stagedFault (s : State) (i : RowId) : Option (Fin 13) :=
  i.fieldNumbers.find? (fun k => !fieldInRange k (s.staged k) (s.staged 6))

/-- The staged fields of a row's kind as the row's values (R137), once they are in range. -/
def State.stagedRow (s : State) (i : RowId) : RowWrite :=
  match i with
  | .output n => .output n
      { inUse := s.staged 0 = 1
        rail := Fin.ofNat 4 (s.staged 1)
        ceiling := s.staged 2
        lapse := if s.staged 3 = 1 then .hold else .off
        retryAllowance := s.staged 4
        retryDelay := s.staged 5 }
  | .rail r => .rail r
      { nominal := s.staged 6, reduced := s.staged 7, reserve := s.staged 8, filter := s.staged 9 }
  | .port p => .port p
      { role := if s.staged 10 = 1 then .lease else .full, quota := s.staged 11
        patience := s.staged 12 }

/-! ## Staging and reading -/

/-- STAGE FIELD (R133). -/
def cmdStageField (_p : Port) (f : Fields) (s : State) : State × Reply :=
  if h : f.selector.toNat < 13 then
    ({ s with staging := s.staging.set f.selector.toNat f.valueA.toNat h },
      { status := .done, handle := 0, valueA := f.valueA.toNat, valueB := f.selector.toNat })
  else s.refuse .badValue

/-- The staging record with these fields written. -/
def stageAll (staging : Vector Nat 13) : List (Fin 13 × Nat) → Vector Nat 13
  | [] => staging
  | e :: es => stageAll (staging.set e.1.val e.2 e.1.isLt) es

/-- LOAD STAGE (R134). -/
def cmdLoadStage (_p : Port) (f : Fields) (s : State) : State × Reply :=
  match RowId.ofNumber f.selector.toNat with
  | none => s.refuse .badValue
  | some i =>
    ({ s with staging := stageAll s.staging (s.shadow.row i).fields },
      { status := .done, handle := 0, valueA := f.selector.toNat
        valueB := (s.shadow.cond i).number })

/-- READ ROW (R135). -/
def cmdReadRow (_p : Port) (f : Fields) (s : State) : State × Reply :=
  match RowId.ofNumber f.selector.toNat with
  | none => s.refuse .badValue
  | some i =>
    match (s.shadow.row i).field? f.valueA.toNat with
    | none => s.refuse .badValue
    | some v =>
      (s, { status := .done, handle := 0, valueA := v, valueB := (s.shadow.cond i).number })

/-! ## WRITE ROW and RELOAD -/

/-- Whether a staged role LEASE for this row would leave no FULL port (R136 step 4). -/
def State.leaseRefused (s : State) (i : RowId) : Bool :=
  match i with
  | .port p =>
    s.staged 10 = 1 && ((s.portRow p.other).role = .lease || (s.shadow.port p.other).cond = .bad)
  | _ => false

/-- WRITE ROW (R136, R137). -/
def cmdWriteRow (p : Port) (f : Fields) (s : State) : State × Reply :=
  match RowId.ofNumber f.selector.toNat with
  | none => s.refuse .badValue
  | some i =>
    if s.write.isSome then s.refuse .storeBusy
    else
      match s.stagedFault i with
      | some k => (s, { status := .badValue, handle := 0, valueA := k.val, valueB := 1 })
      | none =>
        if s.leaseRefused i then
          (s, { status := .badValue, handle := 0, valueA := 10, valueB := 2 })
        else
          ({ s with write := some { port := p, target := s.stagedRow i } }.onPort p (fun ps =>
              { ps with slow := some .writeRow }),
            { status := .pending, handle := 0, valueA := f.selector.toNat, valueB := 0 })

/-- RELOAD (R141). -/
def cmdReload (p : Port) (_f : Fields) (s : State) : State × Reply :=
  if s.write.isSome then s.refuse .storeBusy
  else
    ({ s with mode := .loading, load := some 0 }.onPort p (fun ps =>
        { ps with slow := some .reload }),
      { status := .pending, handle := 0, valueA := 0, valueB := 0 })

/-! ## Handing rows to the other blocks -/

/-- Compute the barred flags of the channels `which` names (R97). -/
def State.judgeBarring (s : State) (which : Output → Bool) : State :=
  { s with channels := Vector.ofFn (fun n =>
      if which n then (s.channel n).judgeBarred (s.shadow.bars n) else s.channel n) }

/-- A port's patience setting takes the patience of its shadow row (R59). -/
def State.defaultPatience (s : State) (p : Port) : State :=
  s.onPort p (fun ps => { ps with patience := (s.portRow p).patience })

/-- What the completion of a row write changes beside the shadow (R138 steps 2 to 4). -/
def State.handOffRow (s : State) (i : RowId) : State :=
  match i with
  | .output n => s.judgeBarring (fun m => m = n)
  | .rail r =>
    (s.onRail r (fun a => (a.loadProfile (s.shadow.rails.get r).vals).judgeCandidate)).judgeBarring
      (fun m => (s.outputRow m).rail = r)
  | .port p => s.defaultPatience p

/-- The end of a port's RELOAD, if it has one in flight (R141). -/
def State.endReload (s : State) (p : Port) : State :=
  if (s.port p).slow = some .reload then
    s.endSlow p { status := .done, handle := 0, valueA := s.shadow.badRows, valueB := 0 }
  else s

/-- The end of a load (R130): the rail accounts, the barring, the patience settings and the mode,
and the reply of RELOAD. -/
def State.endLoad (s : State) : State :=
  let rails := Vector.ofFn (fun r : Rail =>
    let a := (s.rail r).loadProfile (s.shadow.rails.get r).vals
    { a with health := a.reading, candidate := none })
  let handed := ({ s with rails := rails }.judgeBarring (fun _ => true)).defaultPatience .a
    |>.defaultPatience .b
  ({ handed with mode := .setup, load := none }.endReload .a).endReload .b

/-- The shadow after row `i` has been read from the array (R129). -/
def State.readRow (s : State) (i : RowId) : Profile :=
  match s.array.cond i with
  | .good => s.shadow.write (s.array.row i)
  | .bad => s.shadow.spoil i

/-- ROW_READ (R129): the next row of the load; row 29 ends it. With no load running it does
nothing. -/
def execRowRead (s : State) : Host.Outcome State Fault Refusal :=
  match s.load with
  | none => .next s
  | some k =>
    let read := { s with shadow := s.readRow (RowId.ofFin k) }
    if h : k.val + 1 < 30 then .next { read with load := some ⟨k.val + 1, h⟩ }
    else .next read.endLoad

/-- The array row of a write that did not end well is left in one of the three conditions of R139
and R140: a free value (log 7). -/
def State.leaveRemnant (s : State) (target : RowWrite) : State :=
  let drawn := s.draw
  match Config.writeRemnant drawn.1 with
  | .oldRow => drawn.2
  | .newRow => { drawn.2 with array := s.array.write target }
  | .brokenRow => { drawn.2 with array := s.array.spoil target.id }

/-- WRITE_ROW_COMPLETION: success (R138) or verify failure (R139). With no write in flight it does
nothing. -/
def execWriteRowCompletion (agrees : Bool) (s : State) : Host.Outcome State Fault Refusal :=
  match s.write with
  | none => .next s
  | some w =>
    let stored :=
      if agrees then
        { s with array := s.array.write w.target, shadow := s.shadow.write w.target }
      else { s.leaveRemnant w.target with shadow := s.shadow.spoil w.target.id }
    .next (({ stored with write := none }.handOffRow w.target.id).endSlow w.port
      { status := if agrees then .done else .storeFail
        handle := 0, valueA := w.target.id.number, valueB := 0 })

end Sys2Proof.Machine
end

