-- ==== Sys2Proof/Machine/Modes.lean ====
section
/-! DEFINITION. The Mode Controller: OPEN, CLOSE, RESTART and IDENTIFY once intake has passed them
(R148 to R152), and cold reset (R145, R146). -/

namespace Sys2Proof.Machine

/-- The number of barred outputs (R148). -/
def State.barredOutputs (s : State) : Nat :=
  (List.finRange 24).countP (fun n => (s.channel n).barred)

/-- OPEN (R148). -/
def cmdOpen (_p : Port) (_f : Fields) (s : State) : State × Reply :=
  if s.write.isSome then s.refuse .storeBusy
  else
    ({ s with mode := .service },
      { status := .done, handle := 0, valueA := s.shadow.badRows, valueB := s.barredOutputs })

/-- A capture in COPYING or COMPLETE is abandoned (R124). -/
def State.abandonCapture (s : State) (p : Port) : State :=
  s.onPort p (fun ps => { ps with capture := .idle })

/-- The number of ENDED records (R149). -/
def State.endedCount (s : State) : Nat :=
  (List.finRange 48).countP (fun h => (s.record h).isEnded)

/-- CLOSE (R149). -/
def cmdClose (_p : Port) (_f : Fields) (s : State) : State × Reply :=
  if s.notFree = 0 then
    ({ (s.abandonCapture .a).abandonCapture .b with mode := .setup }, Reply.only .done)
  else
    (s, { status := .notEmpty, handle := 0, valueA := s.notFree, valueB := s.endedCount })

/-! ## RESTART -/

/-- What RESTART leaves of a record (Table 2-5). -/
def State.restartRecord (s : State) (h : Handle) : State :=
  match s.record h with
  | .free => s
  | .waiting _ _ _ _ => s.freeRecord h
  | .ended _ _ => s.freeRecord h
  | .granted b _ _ _ k n =>
    match (s.outputRow b.output).lapse with
    | .off => s.freeRecord h
    | .hold => (s.dropNotice h n).setRecord h (.held b k none)
  | .tripped b _ _ _ k n =>
    match (s.outputRow b.output).lapse with
    | .off => s.freeRecord h
    | .hold => (s.dropNotice h n).setRecord h (.deviceTripped b k none)
  | .deviceTripped b k n => (s.dropNotice h n).setRecord h (.deviceTripped b k none)
  | .held b k n => (s.dropNotice h n).setRecord h (.held b k none)

/-- RESTART over these records (R24). -/
def State.restartRecords (s : State) : List Handle → State
  | [] => s
  | h :: hs => (s.restartRecord h).restartRecords hs

/-- RESTART at a rail account (R47): an empty waiting list, the cap at 8191 and a scan. -/
def State.restartRail (s : State) (r : Rail) : State :=
  (s.onRail r (fun a => { a with waiting := [], cap := Config.fullCap })).scan r

/-- RESTART at a port (R115, R125, R151, R165): no notices, the ATTN line released, both buffers
empty, the register FRESH, the last sequence none and the patience its row's. The frame shifter, the
data-out pin and the slow command are not changed. -/
def State.restartPort (s : State) (p : Port) : State :=
  (s.onPort p (fun ps =>
    { ps.withOrder [] with
        front := none, capture := .idle, register := ReplyRegister.cleared
        lastSeq := none })).defaultPatience p

/-- The number of device-held records. -/
def State.deviceHeld (s : State) : Nat :=
  (List.finRange 48).countP (fun h => (s.record h).isDeviceHeld)

/-- RESTART (R150, R151). -/
def cmdRestart (_p : Port) (_f : Fields) (s : State) : State × Reply :=
  let kept := s.restartRecords (List.finRange 48)
  let railed := (((kept.restartRail 0).restartRail 1).restartRail 2).restartRail 3
  (((railed.restartPort .a).restartPort .b).countChange,
    { status := .done, handle := 0, valueA := kept.deviceHeld
      valueB := s.notFree - kept.notFree })

/-- IDENTIFY (R152). -/
def cmdIdentify (_p : Port) (_f : Fields) (s : State) : State × Reply :=
  (s, { status := .done, handle := 0, valueA := Config.partCode
        valueB := packIdentify s.mode s.shadow.badRows })

/-! ## Cold reset -/

/-- A port in cold reset, with the number of free values drawn so far: a frame being shifted is
abandoned (R156), and the level data out then has is a free value (log 9). -/
def PortState.enterColdReset (ps : PortState) (draws : Nat) : PortState × Nat :=
  match ps.shifter with
  | .shifting _ =>
    (PortState.coldReset .abandoned (some (Config.abandonedBit draws)), draws + 1)
  | other => (PortState.coldReset other ps.dataOut, draws)

/-- A row write in flight ends without completion (R140). -/
def State.cutWrite (s : State) : State :=
  match s.write with
  | none => s
  | some w => s.leaveRemnant w.target

/-- Every block in its cold reset state (R145). What outlasts it: the nonvolatile array, the levels
of the input pins, chip select with what is left of a frame, and the model's own fields. -/
def State.enterColdReset (s : State) : State :=
  let cut := s.cutWrite
  let a := s.portA.enterColdReset cut.freeDraws
  let b := s.portB.enterColdReset a.2
  { State.reset with
      pending := s.pending
      supplyLow := s.supplyLow
      resetLow := s.resetLow
      rails := Vector.ofFn (fun r : Rail => Account.coldReset (s.rail r).present (s.rail r).full)
      channels := Vector.ofFn (fun n : Output => Channel.coldReset (s.channel n).faultLow)
      portA := a.1
      portB := b.1
      array := cut.array
      freeDraws := b.2 }

/-- COLD_RESET_BEGIN (R145). -/
def execColdResetBegin (cause : ResetCause) (s : State) : Host.Outcome State Fault Refusal :=
  let entered := s.enterColdReset
  match cause with
  | .supply => .next { entered with supplyLow := true }
  | .resetPin => .next { entered with resetLow := true }

/-- COLD_RESET_END (R146): RESET is high and VDD in range, and the load of R129 begins. Where no
cold reset is in force there is none to end. -/
def execColdResetEnd (s : State) : Host.Outcome State Fault Refusal :=
  if s.inColdReset then .next { s with supplyLow := false, resetLow := false, load := some 0 }
  else .next s

end Sys2Proof.Machine
end

