-- ==== Sys2Proof/Machine/Notices.lean ====
section
/-! DEFINITION. NEXT NOTICE and ACK NOTICE, once intake has passed them (R108 to R111). -/

namespace Sys2Proof.Machine

/-- NEXT NOTICE (R108): the notice of rank 1 of the asking port. -/
def cmdNextNotice (p : Port) (_f : Fields) (s : State) : State × Reply :=
  match (s.port p).noticeOrder with
  | [] => s.refuse .noNotice
  | h :: rest =>
    match (s.record h).notice?, (s.record h).booking? with
    | some n, some b =>
      (s, { status := .done, handle := h.number, valueA := packNotice n
            valueB := packNoticeCount b.output (rest.length + 1) })
    | _, _ => s.refuse .noNotice

/-- The record without its non-final notice (R111); a record of another state as it is. -/
def Record.withoutNotice (r : Record) : Record :=
  match r with
  | .granted b c t d k _ => .granted b c t d k none
  | .tripped b c t d k _ => .tripped b c t d k none
  | .deviceTripped b k _ => .deviceTripped b k none
  | .held b k _ => .held b k none
  | other => other

/-- ACK NOTICE (R109): an ENDED record is freed (R110), any other loses its notice (R111). -/
def cmdAckNotice (p : Port) (f : Fields) (s : State) : State × Reply :=
  match handleOf f.selector with
  | none => s.refuseHandle .badHandle f.selector
  | some h =>
    match (s.record h).notice? with
    | none => s.refuseHandle .noNotice f.selector
    | some n =>
      if n.owedTo = clientOf p f then
        let reply (freed : Nat) : Reply :=
          { status := .done, handle := h.number, valueA := n.reason.number, valueB := freed }
        if (s.record h).isEnded then ((s.freeRecord h).countChange, reply 1)
        else
          (((s.dropNotice h (some n)).setRecord h (s.record h).withoutNotice).countChange, reply 0)
      else s.refuseHandle .noNotice f.selector

end Sys2Proof.Machine
end

