-- ==== Sys2Proof/Machine/Snapshot.lean ====
section
/-! DEFINITION. The Snapshot Units: CAPTURE, FLIP and READ IMAGE once intake has passed them (R118,
R121, R122), and the image copy (R119). -/

namespace Sys2Proof.Machine

/-- CAPTURE (R118). -/
def cmdCapture (p : Port) (f : Fields) (s : State) : State × Reply :=
  let count := f.valueA.toNat
  if count = 0 ∨ 16 < count then s.refuse .badValue
  else
    match handleOf f.selector with
    | none => s.refuse .badRange
    | some first =>
      if 48 < first.number + count - 1 then s.refuse .badRange
      else
        match (s.port p).capture with
        | .copying _ _ _ => s.refuse .captureBusy
        | _ =>
          (s.onPort p (fun ps => { ps with capture := .copying first count [] }),
            { status := .started, handle := first.number, valueA := count
              valueB := s.changeCount.toNat })

/-- FLIP (R121). -/
def cmdFlip (p : Port) (_f : Fields) (s : State) : State × Reply :=
  match (s.port p).capture with
  | .copying _ _ _ => s.refuse .captureBusy
  | .idle => s.refuse .nothingCaptured
  | .complete buffer =>
    (s.onPort p (fun ps => { ps with front := some buffer, capture := .idle }),
      { status := .done, handle := buffer.first.number
        valueA := (buffer.images.head?.map (fun i => i.stamp.toNat)).getD 0
        valueB := (buffer.images.getLast?.map (fun i => i.stamp.toNat)).getD 0 })

/-- READ IMAGE (R122). -/
def cmdReadImage (p : Port) (f : Fields) (s : State) : State × Reply :=
  if 3 < f.valueA.toNat then s.refuse .badValue
  else
    match (s.port p).front with
    | none => s.refuse .nothingCaptured
    | some buffer =>
      match buffer.images[f.selector.toNat]? with
      | none => s.refuse .badRange
      | some i =>
        match i.part f.valueA.toNat with
        | none => s.refuse .badValue
        | some (a, b) =>
          (s, { status := .done, handle := i.handle.number, valueA := a, valueB := b })

/-- The image of a record as it stands (R117). -/
def State.image (s : State) (h : Handle) : Image :=
  { handle := h, record := s.record h, recordRank := s.recordRank h
    noticeRank := s.noticeRank h, stamp := s.changeCount }

/-- The slot `k` after the first handle of a capture; CAPTURE keeps it within the table (R118). -/
def slotAfter (first : Handle) (k : Nat) : Handle :=
  if h : first.val + k < 48 then ⟨first.val + k, h⟩ else first

/-- IMAGE_COPY (R119): the next image of a capture in COPYING; the last one completes it. In any
other state no image is copied (R124). -/
def execImageCopy (p : Port) (s : State) : Host.Outcome State Fault Refusal :=
  match (s.port p).capture with
  | .copying first count images =>
    let images' := images ++ [s.image (slotAfter first images.length)]
    .next (s.onPort p (fun ps =>
      { ps with capture :=
          if images'.length < count then .copying first count images'
          else .complete { first := first, images := images' } }))
  | _ => .next s

end Sys2Proof.Machine
end

