-- ==== Sys2Proof/Machine/Ports.lean ====
section
/-! DEFINITION. The host ports: frames on the pins (R156 to R158), the intake (R159 to R163), the
reply register (R164), and the commands that are frames. -/

namespace Sys2Proof.Machine

/-! ## Commands at their blocks -/

/-- SET PATIENCE, once intake has passed it (R59). -/
def cmdSetPatience (p : Port) (f : Fields) (s : State) : State × Reply :=
  if f.valueA.toNat = 0 then s.refuse .badValue
  else
    (s.onPort p (fun ps => { ps with patience := f.valueA.toNat }),
      { status := .done, handle := 0, valueA := f.valueA.toNat, valueB := 0 })

/-- Step 9 of the intake: the command at the block that owns it (R159). -/
def State.run (s : State) (c : Command) (p : Port) (f : Fields) : State × Reply :=
  match c with
  | .identify => cmdIdentify p f s
  | .request => cmdRequest p f s
  | .release => cmdRelease p f s
  | .renew => cmdRenew p f s
  | .resize => cmdResize p f s
  | .forceEnd => cmdForceEnd p f s
  | .lookupOutput => cmdLookupOutput p f s
  | .nextNotice => cmdNextNotice p f s
  | .ackNotice => cmdAckNotice p f s
  | .setPatience => cmdSetPatience p f s
  | .setCap => cmdSetCap p f s
  | .readRail => cmdReadRail p f s
  | .capture => cmdCapture p f s
  | .flip => cmdFlip p f s
  | .readImage => cmdReadImage p f s
  | .readRow => cmdReadRow p f s
  | .loadStage => cmdLoadStage p f s
  | .stageField => cmdStageField p f s
  | .writeRow => cmdWriteRow p f s
  | .reload => cmdReload p f s
  | .openPart => cmdOpen p f s
  | .closePart => cmdClose p f s
  | .restart => cmdRestart p f s

/-! ## Intake -/

/-- Set the intake indicator and nothing else (R164). -/
def State.markIntake (s : State) (p : Port) (i : Intake) : State :=
  s.onPort p (fun ps => { ps with register := { ps.register with intake := i } })

/-- An executed frame's reply and last sequence (R159, R164). -/
def State.answer (s : State) (p : Port) (code : BitVec 7) (seq : Bool) (lastSeq : Option Bool)
    (reply : Reply) : State :=
  s.onPort p (fun ps =>
    { ps with
        register := { echoCode := code, echoSeq := seq, intake := .taken, reply := reply }
        lastSeq := lastSeq })

/-- The last sequence after a command is carried out: its sequence bit, but none after RESTART
(R151, R162). -/
def Command.lastSeqAfter (c : Command) (seq : Bool) : Option Bool :=
  if c = .restart then none else some seq

/-- Steps 7 to 9 of the intake for a command of Table 12-3: the role (R163), the mode (R144), the
command. -/
def State.execute (s : State) (p : Port) (c : Command) (code : BitVec 7) (f : Fields) : State :=
  if c.isSupervisor && (s.portRow p).role = .lease then
    s.answer p code f.seq (some f.seq) (Reply.only .notPermitted)
  else if c.takenIn s.mode then
    (s.run c p f).1.answer p code f.seq (c.lastSeqAfter f.seq) (s.run c p f).2
  else s.answer p code f.seq (some f.seq) (Reply.only .wrongMode)

/-- Steps 3 to 9 of the intake (R159, Table 11-2). -/
def State.intake (s : State) (p : Port) (content : Content) : State :=
  if content.code = pollCode then s.markIntake p .taken
  else if (s.port p).slow.isSome then s.markIntake p .busy
  else if (s.port p).lastSeq = some content.fields.seq then s.markIntake p .repeated
  else
    match Command.ofCode content.code with
    | none =>
      s.answer p content.code content.fields.seq (some content.fields.seq)
        (Reply.only .unknownCommand)
    | some c => s.execute p c content.code content.fields

/-- The judging of a frame at the rise of chip select (R157 to R159). -/
def State.judge (s : State) (p : Port) : Arrival → State
  | .badLength => s.markIntake p .length
  | .badCrc => s.markIntake p .check
  | .good content => s.intake p content

/-- Chip select is high: the shifter idle and data out at high impedance (R156). -/
def State.raiseSelect (s : State) (p : Port) : State :=
  s.onPort p (fun ps => { ps with shifter := .idle, dataOut := none })

/-- The rise of a port's chip select, the frame being the one the command names (R156, R159; logs 14
and 19). Where clock edges of the frame have been taken, the bits received are judged. Where chip
select is high, the whole frame, from its fall on, comes with the command; cold reset takes none
(R145). A frame that cold reset cut off or left unanswered is not judged. -/
def State.frameEnd (s : State) (p : Port) (named : Arrival) : State :=
  match (s.port p).shifter with
  | .idle => if s.inColdReset then s else (s.raiseSelect p).judge p named
  | .unanswered => s.raiseSelect p
  | .abandoned => s.raiseSelect p
  | .shifting frame =>
    (s.raiseSelect p).judge p (if frame.count = 0 then named else frame.arrival)

/-- The rise of chip select on a good frame of a command of Table 12-3. -/
def State.commandFrame (s : State) (p : Port) (c : Command) (f : Fields) :
    Host.Outcome State Fault Refusal :=
  .next (s.frameEnd p (.good { code := c.code, fields := f }))

/-! ## The commands that are frames -/

/-- POLL (R160). -/
def execPoll (p : Port) (f : Fields) (s : State) : Host.Outcome State Fault Refusal :=
  .next (s.frameEnd p (.good { code := pollCode, fields := f }))

/-- IDENTIFY (R152). -/
def execIdentify (p : Port) (f : Fields) (s : State) : Host.Outcome State Fault Refusal :=
  s.commandFrame p .identify f

/-- REQUEST (R10). -/
def execRequest (p : Port) (f : Fields) (s : State) : Host.Outcome State Fault Refusal :=
  s.commandFrame p .request f

/-- RELEASE (R17). -/
def execRelease (p : Port) (f : Fields) (s : State) : Host.Outcome State Fault Refusal :=
  s.commandFrame p .release f

/-- RENEW (R65). -/
def execRenew (p : Port) (f : Fields) (s : State) : Host.Outcome State Fault Refusal :=
  s.commandFrame p .renew f

/-- RESIZE (R40). -/
def execResize (p : Port) (f : Fields) (s : State) : Host.Outcome State Fault Refusal :=
  s.commandFrame p .resize f

/-- FORCE END (R18). -/
def execForceEnd (p : Port) (f : Fields) (s : State) : Host.Outcome State Fault Refusal :=
  s.commandFrame p .forceEnd f

/-- LOOKUP OUTPUT (R19). -/
def execLookupOutput (p : Port) (f : Fields) (s : State) : Host.Outcome State Fault Refusal :=
  s.commandFrame p .lookupOutput f

/-- NEXT NOTICE (R108). -/
def execNextNotice (p : Port) (f : Fields) (s : State) : Host.Outcome State Fault Refusal :=
  s.commandFrame p .nextNotice f

/-- ACK NOTICE (R109). -/
def execAckNotice (p : Port) (f : Fields) (s : State) : Host.Outcome State Fault Refusal :=
  s.commandFrame p .ackNotice f

/-- SET PATIENCE (R59). -/
def execSetPatience (p : Port) (f : Fields) (s : State) : Host.Outcome State Fault Refusal :=
  s.commandFrame p .setPatience f

/-- SET CAP (R39). -/
def execSetCap (p : Port) (f : Fields) (s : State) : Host.Outcome State Fault Refusal :=
  s.commandFrame p .setCap f

/-- READ RAIL (R44). -/
def execReadRail (p : Port) (f : Fields) (s : State) : Host.Outcome State Fault Refusal :=
  s.commandFrame p .readRail f

/-- CAPTURE (R118). -/
def execCapture (p : Port) (f : Fields) (s : State) : Host.Outcome State Fault Refusal :=
  s.commandFrame p .capture f

/-- FLIP (R121). -/
def execFlip (p : Port) (f : Fields) (s : State) : Host.Outcome State Fault Refusal :=
  s.commandFrame p .flip f

/-- READ IMAGE (R122). -/
def execReadImage (p : Port) (f : Fields) (s : State) : Host.Outcome State Fault Refusal :=
  s.commandFrame p .readImage f

/-- READ ROW (R135). -/
def execReadRow (p : Port) (f : Fields) (s : State) : Host.Outcome State Fault Refusal :=
  s.commandFrame p .readRow f

/-- LOAD STAGE (R134). -/
def execLoadStage (p : Port) (f : Fields) (s : State) : Host.Outcome State Fault Refusal :=
  s.commandFrame p .loadStage f

/-- STAGE FIELD (R133). -/
def execStageField (p : Port) (f : Fields) (s : State) : Host.Outcome State Fault Refusal :=
  s.commandFrame p .stageField f

/-- WRITE ROW (R136). -/
def execWriteRow (p : Port) (f : Fields) (s : State) : Host.Outcome State Fault Refusal :=
  s.commandFrame p .writeRow f

/-- RELOAD (R141). -/
def execReload (p : Port) (f : Fields) (s : State) : Host.Outcome State Fault Refusal :=
  s.commandFrame p .reload f

/-- OPEN (R148). -/
def execOpen (p : Port) (f : Fields) (s : State) : Host.Outcome State Fault Refusal :=
  s.commandFrame p .openPart f

/-- CLOSE (R149). -/
def execClose (p : Port) (f : Fields) (s : State) : Host.Outcome State Fault Refusal :=
  s.commandFrame p .closePart f

/-- RESTART (R150). -/
def execRestart (p : Port) (f : Fields) (s : State) : Host.Outcome State Fault Refusal :=
  s.commandFrame p .restart f

/-- UNKNOWN_COMMAND: a good frame with this code (R159 step 6). -/
def execUnknownCommand (p : Port) (code : BitVec 7) (f : Fields) (s : State) :
    Host.Outcome State Fault Refusal :=
  .next (s.frameEnd p (.good { code := code, fields := f }))

/-- FRAME_LENGTH_FAIL (R157). -/
def execFrameLengthFail (p : Port) (s : State) : Host.Outcome State Fault Refusal :=
  .next (s.frameEnd p .badLength)

/-- FRAME_CRC_FAIL (R158). -/
def execFrameCrcFail (p : Port) (s : State) : Host.Outcome State Fault Refusal :=
  .next (s.frameEnd p .badCrc)

/-! ## Frames on the pins -/

/-- CHIP_SELECT_FALL (R156): the reply register and its CRC are copied and the first bit is driven;
in cold reset the frame is not received and zeros are driven (R145). Where chip select is low
already it does not fall. -/
def execChipSelectFall (p : Port) (s : State) : Host.Outcome State Fault Refusal :=
  .next (s.onPort p (fun ps =>
    match ps.shifter with
    | .idle =>
      if s.inColdReset then { ps with shifter := .unanswered, dataOut := some false }
      else
        let reply := frameBits ps.register.toBits
        { ps with
            shifter := .shifting { count := 0, received := 0, reply := reply, sent := 1 }
            dataOut := some (reply.getMsbD 0) }
    | _ => ps))

/-- A rising clock edge: the data-in bit is shifted in and the edge counted (R156). -/
def Shifting.sample (f : Shifting) (bit : Bool) : Shifting :=
  { f with count := f.count + 1, received := (f.received <<< 1) ||| (BitVec.ofBool bit).setWidth 56 }

/-- CLOCK_EDGE (R156): a rising edge samples, a falling edge drives the next reply bit, 0 after the
56th. An unanswered frame is sent zeros (R145); the level in an abandoned one is a free value (log
9). While chip select is high the clock does nothing. -/
def execClockEdge (p : Port) (edge : Edge) (s : State) : Host.Outcome State Fault Refusal :=
  match (s.port p).shifter, edge with
  | .shifting f, .rising bit =>
    .next (s.onPort p (fun ps => { ps with shifter := .shifting (f.sample bit) }))
  | .shifting f, .falling =>
    .next (s.onPort p (fun ps =>
      { ps with
          shifter := .shifting { f with sent := f.sent + 1 }
          dataOut := some (f.reply.getMsbD f.sent) }))
  | .unanswered, .falling => .next (s.onPort p (fun ps => { ps with dataOut := some false }))
  | .abandoned, .falling =>
    let drawn := s.draw
    .next (drawn.2.onPort p (fun ps =>
      { ps with dataOut := some (Config.abandonedBit drawn.1) }))
  | _, _ => .next s

end Sys2Proof.Machine
end

