-- ==== Sys2Proof/Machine/Timers.lean ====
section
/-! DEFINITION. The Term Timer: its ticks and the expiries of patience and terms (R58, R62 to R64,
R68 to R71). -/

namespace Sys2Proof.Machine

/-- A record with its running countdown lowered by one; one that has run out stays at 0 (R63). -/
def Record.lowerCountdown (r : Record) : Record :=
  match r with
  | .waiting b c t d => .waiting b c t (d - 1)
  | .granted b c t d k n => .granted b c t (d - 1) k n
  | .tripped b c t d k n => .tripped b c t (d - 1) k n
  | other => other

/-- The Term Timer's countdowns run: each that is running and due is lowered by one (R63). -/
def State.runCountdowns (s : State) (due : BitVec 48) : State :=
  { s with records := Vector.ofFn (fun h : Handle =>
      if due.getLsbD h.val then (s.record h).lowerCountdown else s.record h) }

/-- TERM_TIMER_TICK (R63): each running countdown whose 10 ms is up is lowered by one (log 12). The
table has no row for the 10 ms units of the health filters (R34); this tick carries them (log 13). -/
def execTermTimerTick (due : TermTick) (s : State) : Host.Outcome State Fault Refusal :=
  .next ((s.runCountdowns due.countdowns).runFilters due.filters)

/-- PATIENCE_EXPIRY (R58). It acts on a WAITING record whose countdown has run out; an expiry
withdrawn is not taken (R63, R64). -/
def execPatienceExpiry (h : Handle) (s : State) : Host.Outcome State Fault Refusal :=
  match s.record h with
  | .waiting b _ _ 0 => .next ((s.endRecord h .notGranted).scan b.rail).countChange
  | _ => .next s

/-- LAPSE (R68): under action OFF the record ends LAPSED (R69, R71); under HOLD it passes to DEVICE
(R70, R71). It acts on a port-held GRANTED or TRIPPED record whose countdown has run out; an expiry
withdrawn is not taken (R63, R64). -/
def execLapse (h : Handle) (s : State) : Host.Outcome State Fault Refusal :=
  match s.record h with
  | .granted b c _ 0 k n =>
    match (s.outputRow b.output).lapse with
    | .off => .next ((s.endRecord h .lapsed).scan b.rail).countChange
    | .hold => .next ((s.postNotice h n ⟨.lapsedHeld, c⟩).setRecord h
        (.held b k (some ⟨.lapsedHeld, c⟩))).countChange
  | .tripped b c _ 0 k n =>
    match (s.outputRow b.output).lapse with
    | .off => .next ((s.endRecord h .lapsed).scan b.rail).countChange
    | .hold => .next ((s.postNotice h n ⟨.lapsedHeld, c⟩).setRecord h
        (.deviceTripped b k (some ⟨.lapsedHeld, c⟩))).countChange
  | _ => .next s

end Sys2Proof.Machine
end

