-- ==== Sys2Proof/Machine/Dispatch.lean ====
section
/-! DEFINITION. One arm per command of the table, each a direct call of its meaning. -/

namespace Sys2Proof.Machine

def exec (i : Instr) (s : State) : Host.Outcome State Fault Refusal :=
  match i with
  | .poll p f => Sys2Proof.Machine.execPoll p f s
  | .identify p f => Sys2Proof.Machine.execIdentify p f s
  | .request p f => Sys2Proof.Machine.execRequest p f s
  | .release p f => Sys2Proof.Machine.execRelease p f s
  | .renew p f => Sys2Proof.Machine.execRenew p f s
  | .resize p f => Sys2Proof.Machine.execResize p f s
  | .forceEnd p f => Sys2Proof.Machine.execForceEnd p f s
  | .lookupOutput p f => Sys2Proof.Machine.execLookupOutput p f s
  | .nextNotice p f => Sys2Proof.Machine.execNextNotice p f s
  | .ackNotice p f => Sys2Proof.Machine.execAckNotice p f s
  | .setPatience p f => Sys2Proof.Machine.execSetPatience p f s
  | .setCap p f => Sys2Proof.Machine.execSetCap p f s
  | .readRail p f => Sys2Proof.Machine.execReadRail p f s
  | .capture p f => Sys2Proof.Machine.execCapture p f s
  | .flip p f => Sys2Proof.Machine.execFlip p f s
  | .readImage p f => Sys2Proof.Machine.execReadImage p f s
  | .readRow p f => Sys2Proof.Machine.execReadRow p f s
  | .loadStage p f => Sys2Proof.Machine.execLoadStage p f s
  | .stageField p f => Sys2Proof.Machine.execStageField p f s
  | .writeRow p f => Sys2Proof.Machine.execWriteRow p f s
  | .reload p f => Sys2Proof.Machine.execReload p f s
  | .openPart p f => Sys2Proof.Machine.execOpen p f s
  | .closePart p f => Sys2Proof.Machine.execClose p f s
  | .restart p f => Sys2Proof.Machine.execRestart p f s
  | .unknownCommand p code f => Sys2Proof.Machine.execUnknownCommand p code f s
  | .chipSelectFall p => Sys2Proof.Machine.execChipSelectFall p s
  | .frameLengthFail p => Sys2Proof.Machine.execFrameLengthFail p s
  | .frameCrcFail p => Sys2Proof.Machine.execFrameCrcFail p s
  | .faultFall n => Sys2Proof.Machine.execFaultFall n s
  | .faultRise n => Sys2Proof.Machine.execFaultRise n s
  | .trip n => Sys2Proof.Machine.execTrip n s
  | .retryDelayEnd n => Sys2Proof.Machine.execRetryDelayEnd n s
  | .retryTimerTick due => Sys2Proof.Machine.execRetryTimerTick due s
  | .termTimerTick due => Sys2Proof.Machine.execTermTimerTick due s
  | .patienceExpiry h => Sys2Proof.Machine.execPatienceExpiry h s
  | .lapse h => Sys2Proof.Machine.execLapse h s
  | .healthInputChange r present full => Sys2Proof.Machine.execHealthInputChange r present full s
  | .healthLevelTaken r => Sys2Proof.Machine.execHealthLevelTaken r s
  | .imageCopy p => Sys2Proof.Machine.execImageCopy p s
  | .rowRead => Sys2Proof.Machine.execRowRead s
  | .writeRowCompletion agrees => Sys2Proof.Machine.execWriteRowCompletion agrees s
  | .coldResetBegin cause => Sys2Proof.Machine.execColdResetBegin cause s
  | .coldResetEnd => Sys2Proof.Machine.execColdResetEnd s
  | .clockEdge p edge => Sys2Proof.Machine.execClockEdge p edge s

end Sys2Proof.Machine
end

