-- ==== Sys2Proof/WellFormed.lean ====
section
/-! DEFINITION. What a command must satisfy beyond its type. -/

namespace Sys2Proof

/-- A command is well formed: UNKNOWN_COMMAND carries a code that Table 12-3 does not name (R159
step 6). Every other operand is in range by its type. -/
def Instr.wellFormed : Instr → Bool
  | .unknownCommand _ code _ =>
    code ≠ Machine.pollCode && (Machine.Command.ofCode code).isNone
  | _ => true

end Sys2Proof
end

