-- ==== Sys2Proof/Safety.lean ====
section
/-! DEFINITION. What the statements speak of: when a frame is judged and a command executed, and the
laws the spec says the part keeps. -/

namespace Sys2Proof.Machine

/-! ## When a command is carried out -/

/-- A frame the command names is judged at this port: cold reset is not in force, and no frame with
clock edges taken, and none that is not received, is on the port (R145, R156; log 14). -/
def State.hears (s : State) (p : Port) : Bool :=
  match (s.port p).shifter with
  | .idle => !s.inColdReset
  | .shifting frame => frame.count = 0
  | .unanswered => false
  | .abandoned => false

/-- The intake passes a command's frame to step 6 (R159 steps 3 to 5): the port hears it, has no slow
command in flight, and the sequence bit is not the last one. -/
def State.admits (s : State) (p : Port) (f : Fields) : Bool :=
  s.hears p && (s.port p).slow.isNone && (s.port p).lastSeq ≠ some f.seq

/-- The intake passes a command to step 9 (R159, R163, R144): it is admitted, its role is permitted
and it is taken in the mode. -/
def State.takes (s : State) (p : Port) (c : Command) (f : Fields) : Bool :=
  s.admits p f && !(c.isSupervisor && (s.portRow p).role = .lease) && c.takenIn s.mode

/-- The command of the table that is the rise of chip select on a good frame of `c`. -/
def Command.frame (c : Command) (p : Port) (f : Fields) : Instr :=
  match c with
  | .identify => .identify p f
  | .request => .request p f
  | .release => .release p f
  | .renew => .renew p f
  | .resize => .resize p f
  | .forceEnd => .forceEnd p f
  | .lookupOutput => .lookupOutput p f
  | .nextNotice => .nextNotice p f
  | .ackNotice => .ackNotice p f
  | .setPatience => .setPatience p f
  | .setCap => .setCap p f
  | .readRail => .readRail p f
  | .capture => .capture p f
  | .flip => .flip p f
  | .readImage => .readImage p f
  | .readRow => .readRow p f
  | .loadStage => .loadStage p f
  | .stageField => .stageField p f
  | .writeRow => .writeRow p f
  | .reload => .reload p f
  | .openPart => .openPart p f
  | .closePart => .closePart p f
  | .restart => .restart p f

/-- The command of the table that is the rise of chip select on a good frame of this content
(Table 12-3, R159 step 6). -/
def Content.frame (content : Content) (p : Port) : Instr :=
  if content.code = pollCode then .poll p content.fields
  else
    match Command.ofCode content.code with
    | some c => c.frame p content.fields
    | none => .unknownCommand p content.code content.fields

/-- The port whose chip select rises at this command, if it is a frame. -/
def framePort? : Instr → Option Port
  | .poll p _ | .identify p _ | .request p _ | .release p _ | .renew p _ | .resize p _ => some p
  | .forceEnd p _ | .lookupOutput p _ | .nextNotice p _ | .ackNotice p _ => some p
  | .setPatience p _ | .setCap p _ | .readRail p _ | .capture p _ | .flip p _ => some p
  | .readImage p _ | .readRow p _ | .loadStage p _ | .stageField p _ | .writeRow p _ => some p
  | .reload p _ | .openPart p _ | .closePart p _ | .restart p _ => some p
  | .unknownCommand p _ _ | .frameLengthFail p | .frameCrcFail p => some p
  | .chipSelectFall _ | .faultFall _ | .faultRise _ | .trip _ | .retryDelayEnd _ => none
  | .retryTimerTick _ | .termTimerTick _ | .patienceExpiry _ | .lapse _ => none
  | .healthInputChange _ _ _ | .healthLevelTaken _ | .imageCopy _ | .rowRead => none
  | .writeRowCompletion _ | .coldResetBegin _ | .coldResetEnd | .clockEdge _ _ => none

/-- The content of the good frame that a command names, if it names one. -/
def content? : Instr → Option Content
  | .poll _ f => some ⟨pollCode, f⟩
  | .identify _ f => some ⟨Command.identify.code, f⟩
  | .request _ f => some ⟨Command.request.code, f⟩
  | .release _ f => some ⟨Command.release.code, f⟩
  | .renew _ f => some ⟨Command.renew.code, f⟩
  | .resize _ f => some ⟨Command.resize.code, f⟩
  | .forceEnd _ f => some ⟨Command.forceEnd.code, f⟩
  | .lookupOutput _ f => some ⟨Command.lookupOutput.code, f⟩
  | .nextNotice _ f => some ⟨Command.nextNotice.code, f⟩
  | .ackNotice _ f => some ⟨Command.ackNotice.code, f⟩
  | .setPatience _ f => some ⟨Command.setPatience.code, f⟩
  | .setCap _ f => some ⟨Command.setCap.code, f⟩
  | .readRail _ f => some ⟨Command.readRail.code, f⟩
  | .capture _ f => some ⟨Command.capture.code, f⟩
  | .flip _ f => some ⟨Command.flip.code, f⟩
  | .readImage _ f => some ⟨Command.readImage.code, f⟩
  | .readRow _ f => some ⟨Command.readRow.code, f⟩
  | .loadStage _ f => some ⟨Command.loadStage.code, f⟩
  | .stageField _ f => some ⟨Command.stageField.code, f⟩
  | .writeRow _ f => some ⟨Command.writeRow.code, f⟩
  | .reload _ f => some ⟨Command.reload.code, f⟩
  | .openPart _ f => some ⟨Command.openPart.code, f⟩
  | .closePart _ f => some ⟨Command.closePart.code, f⟩
  | .restart _ f => some ⟨Command.restart.code, f⟩
  | .unknownCommand _ code f => some ⟨code, f⟩
  | .frameLengthFail _ | .frameCrcFail _ => none
  | .chipSelectFall _ | .faultFall _ | .faultRise _ | .trip _ | .retryDelayEnd _ => none
  | .retryTimerTick _ | .termTimerTick _ | .patienceExpiry _ | .lapse _ => none
  | .healthInputChange _ _ _ | .healthLevelTaken _ | .imageCopy _ | .rowRead => none
  | .writeRowCompletion _ | .coldResetBegin _ | .coldResetEnd | .clockEdge _ _ => none

/-- The content of the good frame that the rise of chip select finds on a port at this command: the
frame named, or the bits received where clock edges were taken (R156 to R158; logs 14 and 19). -/
def State.found? (s : State) (i : Instr) (p : Port) : Option Content :=
  if framePort? i = some p then
    match (s.port p).shifter with
    | .idle => if s.inColdReset then none else content? i
    | .shifting frame =>
      if frame.count = 0 then content? i
      else
        match frame.arrival with
        | .good content => some content
        | .badLength => none
        | .badCrc => none
    | .unanswered => none
    | .abandoned => none
  else none

/-- This command is the rise of chip select on a good frame of `c` with these fields on this port, and
the intake passes it to step 9 (R159, R161 to R163, R144). -/
structure State.CarriesOut (s : State) (i : Instr) (p : Port) (c : Command) (f : Fields) : Prop where
  found : s.found? i p = some ⟨c.code, f⟩
  free : (s.port p).slow = none
  fresh : (s.port p).lastSeq ≠ some f.seq
  role : c.isSupervisor = true → (s.portRow p).role = .full
  taken : c.takenIn s.mode = true

/-- The end of an executed frame at its port (R156, R159, R164): chip select high, the echo and the
reply in the register with intake TAKEN, and the sequence bit the last one. -/
def State.replied (s : State) (p : Port) (code : BitVec 7) (f : Fields) (reply : Reply) : State :=
  s.onPort p (fun ps =>
    { ps with
        shifter := .idle, dataOut := none, lastSeq := some f.seq
        register := { echoCode := code, echoSeq := f.seq, intake := .taken, reply := reply } })

/-- The end of a frame that is not executed (R156, R164): chip select high and the intake indicator,
the result fields and the last sequence kept. -/
def State.marked (s : State) (p : Port) (i : Intake) : State :=
  s.onPort p (fun ps =>
    { ps with shifter := .idle, dataOut := none, register := { ps.register with intake := i } })

/-- Commands taken one after another. -/
def runAll : List Instr → State → Host.Outcome State Fault Refusal
  | [], s => .next s
  | i :: is, s =>
    match exec i s with
    | .next t => runAll is t
    | .fault r => .fault r
    | .refused r => .refused r

/-- The clock of a port through these data-in bits: a rising and a falling edge for each (R156). -/
def clockBits (p : Port) (bits : List Bool) : List Instr :=
  bits.flatMap (fun b => [.clockEdge p (.rising b), .clockEdge p .falling])

/-! ## The laws of the part -/

/-- Each ATTN line is asserted exactly while its port is owed a notice (R107). -/
def State.AttnFollowsOrders (s : State) : Prop :=
  ∀ p, (s.port p).attnLow = !(s.port p).noticeOrder.isEmpty

/-- A channel is as Table 6-2 has it (R86): ENn high exactly in ON, the retry timer running exactly in
RETRY, a raised trip only in ON, and BARRED only with the barred flag set. -/
def Channel.Shaped (c : Channel) : Prop :=
  (c.enableHigh = true ↔ c.state = .on) ∧ (c.retryTimer.isSome = true ↔ c.state = .retry)
    ∧ (c.tripRaised = true → c.state = .on) ∧ (c.state = .barred → c.barred = true)

/-- Every channel is as Table 6-2 has it. -/
def State.ChannelsShaped (s : State) : Prop := ∀ n, (s.channel n).Shaped

/-- Outside SERVICE every record is FREE (R143). -/
def State.EmptyOutsideService (s : State) : Prop :=
  s.mode ≠ .service → ∀ h, s.record h = .free

/-- Row writes, loads and cold reset keep to their modes, and a port's slow command is the one in
flight (R137, R141, R145, R161). -/
structure State.StoreExclusive (s : State) : Prop where
  writeInSetup : s.write.isSome = true → s.mode = .setup
  loadInLoading : s.load.isSome = true → s.mode = .loading
  loadingLoads : s.mode = .loading → s.load.isSome = true ∨ s.inColdReset = true
  resetLoads : s.inColdReset = true → s.mode = .loading ∧ s.load = none
  slowWrite : ∀ p, (s.port p).slow = some .writeRow ↔ ∃ w ∈ s.write, w.port = p
  slowReload : ∀ p, (s.port p).slow = some .reload → s.load.isSome = true

/-- At least one port has role FULL, but while a load has the rows part old and part new (R128), with
what keeps it so: a GOOD shadow row agrees with the array, the array never holds both port rows LEASE,
and a port row is written LEASE only while the other is GOOD and FULL (R136 step 4). -/
structure State.KeepsSupervisor (s : State) : Prop where
  fullPort : s.mode ≠ .loading → (s.portRow .a).role = .full ∨ (s.portRow .b).role = .full
  goodRows : ∀ p, (s.shadow.port p).cond = .good → s.array.port p = s.shadow.port p
  arrayRoles : ¬ ((s.array.port .a).cond = .good ∧ (s.array.port .a).vals.role = .lease
    ∧ (s.array.port .b).cond = .good ∧ (s.array.port .b).vals.role = .lease)
  badPortA : (s.shadow.port .a).cond = .bad → (s.portRow .a).role = .full
  leaseWrite : ∀ q p v, s.write = some ⟨q, .port p v⟩ → v.role = .lease →
    (s.shadow.port p.other).cond = .good ∧ (s.portRow p.other).role = .full
  writeMode : s.write.isSome = true → s.mode = .setup
  loadMode : s.load.isSome = true → s.mode = .loading

/-- The record's booking is on this rail. -/
def Record.onRail (r : Record) (rail : Rail) : Bool := r.booking?.any (fun b => b.rail = rail)

/-- The record carries a notice owed to this port. -/
def Record.owes (r : Record) (p : Port) : Bool := r.notice?.any (fun n => n.owedTo.port = p)

/-- The class of a record's booking is at most that of another's. -/
def Record.classLe (r r' : Record) : Bool :=
  r.booking?.all (fun b => r'.booking?.all (fun b' => b.cls ≤ b'.cls))

/-- The waiting lists hold exactly the WAITING records of their rails, each once, ordered by class
(R48). -/
def State.WaitingListsExact (s : State) : Prop :=
  ∀ r, (s.rail r).waiting.Nodup
    ∧ (∀ h, h ∈ (s.rail r).waiting ↔
        (s.record h).isWaiting = true ∧ (s.record h).onRail r = true)
    ∧ (s.rail r).waiting.Pairwise (fun x y => (s.record x).classLe (s.record y) = true)

/-- The current of a record's booking, 0 for a FREE record. -/
def Record.currentOr0 (r : Record) : Nat := (r.booking?.map (fun b => b.current)).getD 0

/-- The grant orders hold exactly the committing records of their rails, each once (R32), and
committed is the sum of their currents (R28). -/
def State.GrantOrdersExact (s : State) : Prop :=
  ∀ r, (s.rail r).grantOrder.Nodup
    ∧ (∀ h, h ∈ (s.rail r).grantOrder ↔
        (s.record h).isCommitting = true ∧ (s.record h).onRail r = true)
    ∧ (s.rail r).committed = ((s.rail r).grantOrder.map (fun h => (s.record h).currentOr0)).sum

/-- The notice orders hold exactly the records that carry a notice owed to their ports, each once
(R102). -/
def State.NoticeOrdersExact (s : State) : Prop :=
  ∀ p, (s.port p).noticeOrder.Nodup
    ∧ ∀ h, h ∈ (s.port p).noticeOrder ↔ (s.record h).owes p = true

/-- No output is covered by more than one record (R2). -/
def State.CoversOnce (s : State) : Prop :=
  ∀ h h' o, (s.record h).covers o = true → (s.record h').covers o = true → h = h'

/-- The channel of an output is ON exactly when the record covering it is GRANTED or HELD, and in
RETRY exactly when it is TRIPPED (R86, R87). -/
def State.ChannelsFollowRecords (s : State) : Prop :=
  ∀ n, ((s.channel n).state = .on ↔ ∃ h, (s.record h).covers n = true ∧ (s.record h).isOn = true)
    ∧ ((s.channel n).state = .retry ↔
        ∃ h, (s.record h).covers n = true ∧ (s.record h).isTripped = true)

/-- On each rail committed is at most the effective limit (R28). -/
def State.WithinLimits (s : State) : Prop := ∀ r, (s.rail r).committed ≤ (s.rail r).limit

/-- In SERVICE the head of each waiting list asks more than the room for its class (R52). -/
def State.HeadsDoNotFit (s : State) : Prop :=
  s.mode = .service → ∀ r, ∀ h ∈ (s.rail r).waiting.head?, ∀ b ∈ (s.record h).booking?,
    (s.rail r).room b.cls < b.current

/-- The records counted against a port never exceed its quota (R9). -/
def State.WithinQuotas (s : State) : Prop := ∀ p, s.counted p ≤ (s.portRow p).quota

/-- A notice is of a reason its record's state allows (Table 7-1), owed to the holder when the holder
is a port (R3). -/
def Record.noticeFits : Record → Bool
  | .free => true
  | .waiting _ _ _ _ => true
  | .granted _ c _ _ _ n | .tripped _ c _ _ _ n =>
    n.all (fun m => (m.reason = .granted || m.reason = .tripped) && m.owedTo = c)
  | .deviceTripped _ _ n | .held _ _ n => n.all (fun m => m.reason = .lapsedHeld)
  | .ended _ m => 3 < m.reason.number

/-- Every record's notice fits its state. -/
def State.NoticesFit (s : State) : Prop := ∀ h, (s.record h).noticeFits = true

/-- A record that covers an output is on the rail of the output's row (R1, R4). -/
def State.RailsAgree (s : State) : Prop :=
  ∀ h o, (s.record h).covers o = true → (s.record h).onRail (s.outputRow o).rail = true

/-- A channel's barred flag is set exactly in BARRED (R86, R97). -/
def State.BarredFlagsShow (s : State) : Prop :=
  ∀ n, (s.channel n).barred = true ↔ (s.channel n).state = .barred

/-- No record other than a FREE one names a barred output (R12). -/
def State.NamesUnbarred (s : State) : Prop :=
  ∀ h, ∀ b ∈ (s.record h).booking?, (s.channel b.output).barred = false

/-- No cap is above the cap of cold reset (R25). -/
def State.CapsFit (s : State) : Prop := ∀ r, (s.rail r).cap ≤ Config.fullCap

/-- The laws the blocks keep between them. -/
structure State.Sound (s : State) : Prop where
  waiting : s.WaitingListsExact
  grants : s.GrantOrdersExact
  notices : s.NoticeOrdersExact
  attn : s.AttnFollowsOrders
  fits : s.NoticesFit
  once : s.CoversOnce
  rails : s.RailsAgree
  shapes : s.ChannelsShaped
  channels : s.ChannelsFollowRecords
  flags : s.BarredFlagsShow
  barring : s.NamesUnbarred
  caps : s.CapsFit
  limits : s.WithinLimits
  heads : s.HeadsDoNotFit
  quotas : s.WithinQuotas
  empty : s.EmptyOutsideService
  store : s.StoreExclusive

/-! ## The ranges of the numbers (log 26) -/

/-- The numbers of a record are in the ranges of R1. -/
structure Record.InRange (r : Record) : Prop where
  current : ∀ b ∈ r.booking?, 1 ≤ b.current ∧ b.current ≤ 8191
  term : ∀ t ∈ r.term?, 1 ≤ t ∧ t ≤ 8191
  countdown : ∀ d ∈ r.countdown?, d ≤ 8191
  retries : ∀ k ∈ r.retries?, k ≤ 7

/-- The numbers of an account are in the ranges of R25 and of Table 9-1. -/
structure Account.InRange (a : Account) : Prop where
  nominal : a.nominal ≤ 8191
  reduced : a.reduced ≤ a.nominal
  reserve : a.reserve ≤ 8191
  filterTime : a.filterTime ≤ 15
  cap : a.cap ≤ 8191
  committed : a.committed ≤ 8191

/-- The values of a row are in the ranges of Table 9-1. -/
def RowWrite.InRange : RowWrite → Prop
  | .output _ v => v.ceiling ≤ 8191 ∧ v.retryAllowance ≤ 7 ∧ 1 ≤ v.retryDelay ∧ v.retryDelay ≤ 255
  | .rail _ v => v.nominal ≤ 8191 ∧ v.reduced ≤ v.nominal ∧ v.reserve ≤ 8191 ∧ v.filter ≤ 15
  | .port _ v => v.quota ≤ 48 ∧ 1 ≤ v.patience ∧ v.patience ≤ 8191

/-- A reply's handle and values are in the ranges of R155. The handle of a BAD_HANDLE may be one that
its six bits hold and no record has (log 10). -/
structure Reply.InRange (r : Reply) : Prop where
  handle : r.handle ≤ 48 ∨ r.status = .badHandle ∧ r.handle ≤ 63
  valueA : r.valueA ≤ 8191
  valueB : r.valueB ≤ 8191

/-- The numbers of an image are in range (R117). -/
structure Image.InRange (i : Image) : Prop where
  record : i.record.InRange
  recordRank : i.recordRank ≤ 48
  noticeRank : i.noticeRank ≤ 48

/-- A filled buffer holds 1 to 16 images within the table (R116). -/
structure Buffer.InRange (b : Buffer) : Prop where
  filled : 1 ≤ b.images.length ∧ b.images.length ≤ 16
  inTable : b.first.val + b.images.length ≤ 48
  images : ∀ i ∈ b.images, i.InRange

/-- A capture is of 1 to 16 records within the table, and one in COPYING is not yet whole (R116,
R118, R119). -/
def Capture.InRange : Capture → Prop
  | .idle => True
  | .copying first count images =>
    images.length < count ∧ count ≤ 16 ∧ first.val + count ≤ 48 ∧ ∀ i ∈ images, i.InRange
  | .complete buffer => buffer.InRange

/-- The numbers of a port are in the ranges of R155. -/
structure PortState.InRange (ps : PortState) : Prop where
  reply : ps.register.reply.InRange
  patience : 1 ≤ ps.patience ∧ ps.patience ≤ 8191
  front : ∀ b ∈ ps.front, b.InRange
  capture : ps.capture.InRange

/-- Every number is in the range the spec gives it. -/
structure State.InRange (s : State) : Prop where
  records : ∀ h, (s.record h).InRange
  rails : ∀ r, (s.rail r).InRange
  timers : ∀ n, ∀ k ∈ (s.channel n).retryTimer, k ≤ 255
  ports : ∀ p, (s.port p).InRange
  shadow : ∀ i, (s.shadow.row i).InRange
  array : ∀ i, (s.array.row i).InRange
  staging : ∀ k, s.staged k ≤ 8191
  write : ∀ w ∈ s.write, w.target.InRange

end Sys2Proof.Machine
end

