-- ==== Sys2Proof/Certificates/Slice0/Obligations.lean ====
section
/-! DEFINITION. The statements for the provers. Each docstring names the rule of the spec it
formalises, or says what it rests on. -/

open Sys2Proof Sys2Proof.Machine

/-! ## The machine: queue, reset and laws -/

/-- A step takes the command at the front of the queue and is `exec` on the queue's rest. The queue,
first in first out, is the model's choice (log 1): the spec takes happenings one by one and whole (R20)
and names no queue. -/
def Obligations.StepRunsFrontCommand : Prop :=
  ∀ (c : Instr) (rest : List Instr) (s : State),
    step { s with pending := c :: rest } = exec c { s with pending := rest }

/-- Every command answers a next state and leaves the queue as it is, and on an empty queue the part
idles. That no command stops the part is DEDUCED (log 25: the spec names no stop, and the part's
refusals are replies); the queue and the idling are the model's choices (logs 1 and 13). -/
def Obligations.EveryCommandAnswersNext : Prop :=
  (∀ (c : Instr) (s : State), ∃ t, exec c s = .next t ∧ t.pending = s.pending)
  ∧ ∀ s : State, s.pending = [] → step s = .next s

/-- The state after reset is the cold reset state, where the spec gives one (R23, R46, R101, R115,
R125, R127, R128, R132, R145, R166). -/
def Obligations.ResetHoldsColdResetState : Prop :=
  let s := State.reset
  s.mode = .loading ∧ s.changeCount = 0 ∧ s.write = none ∧ s.load = none
    ∧ (∀ h, s.record h = .free)
    ∧ (∀ r, (s.rail r).cap = 8191 ∧ (s.rail r).committed = 0 ∧ (s.rail r).waiting = []
        ∧ (s.rail r).grantOrder = [] ∧ (s.rail r).candidate = none ∧ (s.rail r).nominal = 0
        ∧ (s.rail r).reduced = 0 ∧ (s.rail r).reserve = 0 ∧ (s.rail r).filterTime = 0
        ∧ (s.rail r).health = .lost)
    ∧ (∀ n, (s.channel n).state = .off ∧ (s.channel n).enableHigh = false
        ∧ (s.channel n).retryTimer = none ∧ (s.channel n).barred = false
        ∧ (s.channel n).tripRaised = false)
    ∧ (∀ p, (s.port p).noticeOrder = [] ∧ (s.port p).attnLow = false ∧ (s.port p).front = none
        ∧ (s.port p).capture = .idle ∧ (s.port p).shifter = .idle ∧ (s.port p).lastSeq = none
        ∧ (s.port p).slow = none ∧ (s.port p).patience = 100
        ∧ (s.port p).register = ⟨0, false, .taken, ⟨.fresh, 0, 0, 0⟩⟩)
    ∧ (∀ n, s.shadow.outputs.get n = ⟨.bad, ⟨false, 0, 0, .off, 0, 1⟩⟩)
    ∧ (∀ r, s.shadow.rails.get r = ⟨.bad, ⟨0, 0, 0, 0⟩⟩)
    ∧ s.shadow.portA = ⟨.bad, ⟨.full, 24, 100⟩⟩ ∧ s.shadow.portB = ⟨.bad, ⟨.lease, 24, 100⟩⟩
    ∧ ∀ k, s.staged k = 0

/-- The state after reset keeps the laws of the part and the ranges of its numbers. -/
def Obligations.ResetKeepsTheLaws : Prop :=
  State.reset.Sound ∧ State.reset.KeepsSupervisor ∧ State.reset.InRange

/-- Every step keeps the laws of the lists, orders, channels, limits, quotas and modes (R2, R3, R9,
R28, R32, R48, R52, R86, R87, R102, R107, R143), from every state that has them all; among them that no
record but a FREE one names a barred output and the barred flag is set exactly in BARRED (R12, R97), and
that no cap is above 8191 (R25). -/
def Obligations.StepKeepsSound : Prop :=
  ∀ s t : State, s.Sound → step s = .next t → t.Sound

/-- Every step keeps every number in the range the spec gives it: currents, terms, countdowns and
retries (R1), the accounts (R25), retry timers (R86), rows, staging fields and the row being written
(Table 9-1, R132), patience and replies (R155), captures and images (R116, R117). That the commands keep
these ranges is DEDUCED (log 26; that a list holds at most 48 handles is StepKeepsSound's, since none
stands in it twice), and the handle of a BAD_HANDLE may be one no record has (log 10). -/
def Obligations.StepKeepsRanges : Prop :=
  ∀ s t : State, s.Sound → s.InRange → step s = .next t → t.InRange

/-- Every step keeps at least one port FULL outside LOADING (R136, R140), from every state that keeps
the law with what it rests on and keeps writes and loads to their modes. R128 states the law with no
exception; "outside LOADING" is the model's reading of it (log 21, DEDUCED). -/
def Obligations.StepKeepsSupervisor : Prop :=
  ∀ s t : State, s.StoreExclusive → s.KeepsSupervisor → step s = .next t → t.KeepsSupervisor

/-- Every step keeps the notice orders exact (R102) and the ATTN lines with them (R107). -/
def Obligations.StepKeepsNoticeOrders : Prop :=
  ∀ s t : State, s.NoticeOrdersExact → s.AttnFollowsOrders → step s = .next t →
    t.NoticeOrdersExact ∧ t.AttnFollowsOrders

/-- Every step keeps row writes, loads, cold reset and slow commands to their modes (R137, R141,
R145, R161). -/
def Obligations.StepKeepsStoreModes : Prop :=
  ∀ s t : State, s.StoreExclusive → step s = .next t → t.StoreExclusive

/-- The mode changes only as Table 10-1 says (R143): to LOADING by cold reset or by a RELOAD carried
out, to SETUP by the last row of a load or by a CLOSE carried out, to SERVICE by an OPEN carried out. -/
def Obligations.ModeChangesByTable : Prop :=
  ∀ (c : Instr) (s t : State), s.StoreExclusive → exec c s = .next t → t.mode ≠ s.mode →
    (t.mode = .loading ∧ ∃ cause, c = .coldResetBegin cause)
    ∨ (s.mode = .loading ∧ t.mode = .setup ∧ c = .rowRead ∧ s.load = some 29)
    ∨ (s.mode = .setup ∧ t.mode = .loading ∧ s.write = none ∧ t.load = some 0
        ∧ ∃ p f, s.CarriesOut c p .reload f)
    ∨ (s.mode = .setup ∧ t.mode = .service ∧ s.write = none ∧ ∃ p f, s.CarriesOut c p .openPart f)
    ∨ (s.mode = .service ∧ t.mode = .setup ∧ (∀ h, s.record h = .free)
        ∧ ∃ p f, s.CarriesOut c p .closePart f)

/-- A FREE record is taken only by a REQUEST that is granted or waits, for a party of its port, and
it is the lowest FREE record (R4, 2.6). -/
def Obligations.OnlyRequestTakesRecords : Prop :=
  ∀ (c : Instr) (s t : State) (h : Handle), exec c s = .next t →
    s.record h = .free → t.record h ≠ .free →
    (∀ k, k < h → t.record k ≠ .free)
    ∧ ∃ p tag, (t.record h).holder? = some (.client ⟨p, tag⟩)
      ∧ (t.port p).register.echoCode = Command.request.code
      ∧ ((t.port p).register.reply.status = .granted ∨ (t.port p).register.reply.status = .waiting)
      ∧ (t.port p).register.reply.handle = h.number

/-- In SERVICE nothing but cold reset changes the profile or a barred flag (R97, R131, R143). -/
def Obligations.ServiceKeepsProfile : Prop :=
  ∀ (c : Instr) (s t : State), s.StoreExclusive → s.mode = .service →
    (∀ cause, c ≠ .coldResetBegin cause) → exec c s = .next t →
    t.shadow = s.shadow ∧ t.array = s.array ∧ ∀ n, (t.channel n).barred = (s.channel n).barred

/-- A command other than cold reset advances the change count by at most one, and one that leaves it
as it stands writes no record, but for the ticks of the countdowns (R7). -/
def Obligations.ChangeCountMarksWrites : Prop :=
  ∀ (c : Instr) (s t : State), s.Sound → (∀ cause, c ≠ .coldResetBegin cause) →
    exec c s = .next t →
    t.changeCount = s.changeCount + 1
    ∨ (t.changeCount = s.changeCount
        ∧ (t.records = s.records ∨ ∃ due, c = .termTimerTick due))

/-- A frame on one port changes nothing of the other port but its notice order and ATTN line, unless it
carries out CLOSE or RESTART. A CLOSE that is not refused abandons the other port's capture and nothing
else of it (R124, R149). RESTART releases its ATTN line, empties its notice order and both its buffers,
sets its register FRESH, its last sequence to none and its patience to its row's, and nothing else of it
(11.1, R115, R125, R151, R165). -/
def Obligations.PortsKeepApart : Prop :=
  ∀ (i : Instr) (p : Port) (s t : State), framePort? i = some p → exec i s = .next t →
    let o := s.port p.other
    ((∀ f, ¬ s.CarriesOut i p .closePart f ∧ ¬ s.CarriesOut i p .restart f) →
      t.port p.other = { o with
        noticeOrder := (t.port p.other).noticeOrder, attnLow := (t.port p.other).attnLow })
    ∧ ((∃ f, s.CarriesOut i p .closePart f) →
      ((∀ h, s.record h = .free) → t.port p.other = { o with capture := .idle })
      ∧ ((∃ h, s.record h ≠ .free) → t.port p.other = o))
    ∧ ((∃ f, s.CarriesOut i p .restart f) →
      t.port p.other = { o with
        noticeOrder := [], attnLow := false, front := none, capture := .idle
        register := ⟨0, false, .taken, ⟨.fresh, 0, 0, 0⟩⟩, lastSeq := none
        patience := (s.portRow p.other).patience })

/-! ## Frames -/

/-- POLL sets the intake indicator to TAKEN, a wrong length LENGTH and a wrong CRC CHECK, and nothing
else (R160, R157, R158). -/
def Obligations.PollAndFailedFramesOnlyMark : Prop :=
  ∀ (s : State) (p : Port) (f : Fields), s.hears p = true →
    exec (.poll p f) s = .next (s.marked p .taken)
    ∧ exec (.frameLengthFail p) s = .next (s.marked p .length)
    ∧ exec (.frameCrcFail p) s = .next (s.marked p .check)

/-- While a slow command of the port is in flight every good frame but POLL is answered BUSY (R161);
with none, a frame whose sequence bit is the last sequence is answered REPEAT (R162); neither is
carried out. -/
def Obligations.BusyAndRepeatOnlyMark : Prop :=
  (∀ (s : State) (p : Port) (content : Content), content.code ≠ pollCode → s.hears p = true →
    (s.port p).slow ≠ none → exec (content.frame p) s = .next (s.marked p .busy))
  ∧ (∀ (s : State) (p : Port) (content : Content), content.code ≠ pollCode → s.hears p = true →
    (s.port p).slow = none → (s.port p).lastSeq = some content.fields.seq →
    exec (content.frame p) s = .next (s.marked p .repeated))

/-- A code that Table 12-3 does not name is refused UNKNOWN_COMMAND and echoed (Table 11-2 step 6). -/
def Obligations.UnknownCodeIsRefused : Prop :=
  ∀ (s : State) (p : Port) (code : BitVec 7) (f : Fields),
    (Instr.unknownCommand p code f).wellFormed = true → s.admits p f = true →
    exec (.unknownCommand p code f) s = .next (s.replied p code f ⟨.unknownCommand, 0, 0, 0⟩)

/-- A supervisor command from a LEASE port is refused NOT_PERMITTED in every mode (R163); any other
command in a mode that Table 10-2 does not give it is refused WRONG_MODE (R144). Which commands are
supervisor commands, and the modes each command is taken in, are given whole. -/
def Obligations.RoleAndModeRefusals : Prop :=
  (∀ c : Command, c.isSupervisor = true ↔
    c ∈ [Command.openPart, .closePart, .restart, .forceEnd, .setCap, .writeRow, .reload])
  ∧ (∀ (c : Command) (mode : Mode), c.takenIn mode = true ↔ c = .identify
    ∨ mode = .service ∧ c ∉ [Command.writeRow, .reload, .openPart]
    ∨ mode = .setup ∧ c ∈ [Command.lookupOutput, .readRail, .setPatience, .readRow, .loadStage,
      .stageField, .setCap, .writeRow, .reload, .openPart])
  ∧ (∀ (s : State) (p : Port) (c : Command) (f : Fields),
    c ∈ [Command.openPart, .closePart, .restart, .forceEnd, .setCap, .writeRow, .reload] →
    s.admits p f = true → (s.portRow p).role = .lease →
    exec (c.frame p f) s = .next (s.replied p c.code f ⟨.notPermitted, 0, 0, 0⟩))
  ∧ (∀ (s : State) (p : Port) (c : Command) (f : Fields), s.admits p f = true →
    (c ∈ [Command.openPart, .closePart, .restart, .forceEnd, .setCap, .writeRow, .reload] →
      (s.portRow p).role = .full) →
    (c ∈ [Command.request, .release, .renew, .resize, .nextNotice, .ackNotice, .capture, .flip,
        .readImage, .forceEnd, .closePart, .restart] ∧ s.mode ≠ .service
      ∨ c ∈ [Command.lookupOutput, .readRail, .setPatience, .readRow, .loadStage, .stageField,
        .setCap] ∧ s.mode = .loading
      ∨ c ∈ [Command.writeRow, .reload, .openPart] ∧ s.mode ≠ .setup) →
    exec (c.frame p f) s = .next (s.replied p c.code f ⟨.wrongMode, 0, 0, 0⟩))

/-- The fall of chip select copies the register with its CRC and drives the first bit (R156); in cold
reset the frame is not received and a zero is driven (R145); chip select that is low does not fall
(log 18). -/
def Obligations.SelectFallStartsReply : Prop :=
  ∀ (s : State) (p : Port),
    ((s.port p).shifter = .idle → s.inColdReset = false →
      exec (.chipSelectFall p) s = .next (s.onPort p (fun ps =>
        { ps with
            shifter := .shifting ⟨0, 0, frameBits ps.register.toBits, 1⟩
            dataOut := some (frameBits ps.register.toBits).msb })))
    ∧ ((s.port p).shifter = .idle → s.inColdReset = true →
      exec (.chipSelectFall p) s = .next (s.onPort p (fun ps =>
        { ps with shifter := .unanswered, dataOut := some false })))
    ∧ ((s.port p).shifter ≠ .idle → exec (.chipSelectFall p) s = .next s)

/-- A rising edge samples and counts, a falling edge drives the next reply bit (R156); an unanswered
frame is sent zeros (R145); the level in an abandoned frame is free (log 9); with chip select high
the clock does nothing. -/
def Obligations.ClockEdgesShift : Prop :=
  ∀ (s : State) (p : Port) (bit : Bool),
    (∀ fr, (s.port p).shifter = .shifting fr →
      exec (.clockEdge p (.rising bit)) s = .next (s.onPort p (fun ps =>
        { ps with shifter :=
            .shifting { fr with
              count := fr.count + 1
              received := (fr.received ++ BitVec.ofBool bit).extractLsb' 0 56 } }))
      ∧ exec (.clockEdge p .falling) s = .next (s.onPort p (fun ps =>
        { ps with
            shifter := .shifting { fr with sent := fr.sent + 1 }
            dataOut := some (fr.reply.getMsbD fr.sent) })))
    ∧ ((s.port p).shifter = .unanswered →
      exec (.clockEdge p (.rising bit)) s = .next s
      ∧ exec (.clockEdge p .falling) s = .next (s.onPort p (fun ps =>
        { ps with dataOut := some false })))
    ∧ ((s.port p).shifter = .abandoned →
      exec (.clockEdge p (.rising bit)) s = .next s
      ∧ ∃ level, exec (.clockEdge p .falling) s =
          .next { s.onPort p (fun ps => { ps with dataOut := some level }) with
            freeDraws := s.freeDraws + 1 })
    ∧ ((s.port p).shifter = .idle →
      exec (.clockEdge p (.rising bit)) s = .next s ∧ exec (.clockEdge p .falling) s = .next s)

/-- After the fall of chip select and k clock periods the data-out pin shows bit k of the reply that
stood at the fall, and 0 after the 56th bit (R156). -/
def Obligations.ReplyShiftsOut : Prop :=
  ∀ (s : State) (p : Port) (bits : List Bool), (s.port p).shifter = .idle →
    s.inColdReset = false → ∃ t, runAll (.chipSelectFall p :: clockBits p bits) s = .next t
      ∧ (t.port p).dataOut =
        some ((frameBits (s.port p).register.toBits).getMsbD bits.length)
      ∧ (bits.length < 56 ∨ (t.port p).dataOut = some false)

/-- A frame sent bit by bit does what the table's one command for it does: a wrong length, a wrong
CRC, or the command its content names (R156 to R159, R168). Whichever frame command stands for the
rise of chip select, the bits received decide (log 19). -/
def Obligations.PinsCarryNamedFrame : Prop :=
  ∀ (s : State) (p : Port) (bits : List Bool) (rise : Instr), (s.port p).shifter = .idle →
    s.inColdReset = false → framePort? rise = some p → bits ≠ [] →
    (bits.length ≠ 56 →
      runAll (.chipSelectFall p :: clockBits p bits ++ [rise]) s = exec (.frameLengthFail p) s)
    ∧ (∀ (content : BitVec 48) (crc : BitVec 8),
      bits = (List.range 56).map (fun k => (content ++ crc).getMsbD k) →
      runAll (.chipSelectFall p :: clockBits p bits ++ [rise]) s =
        if crc = crc8 content then exec ((Content.ofBits content).frame p) s
        else exec (.frameCrcFail p) s)

/-- A rise of chip select on a frame that cold reset left unanswered or cut off is not judged, and no
frame is received while cold reset lasts (R145, R156). The last clause is the model's reading of a
whole frame given in one command: log 14. -/
def Obligations.ColdResetFramesAreNotJudged : Prop :=
  ∀ (i : Instr) (p : Port) (s : State), framePort? i = some p →
    (((s.port p).shifter = .unanswered ∨ (s.port p).shifter = .abandoned) →
      exec i s = .next (s.onPort p (fun ps => { ps with shifter := .idle, dataOut := none })))
    ∧ ((s.port p).shifter = .idle → s.inColdReset = true → exec i s = .next s)

/-- The 48 bits of a request and its code and fields determine each other, each field at its place in
Table 12-1, and the reply's bits hold the register's fields at the places of Table 12-2 (R168). -/
def Obligations.FrameContentRoundTrips : Prop :=
  (∀ c : Content, Content.ofBits c.toBits = c) ∧ (∀ w, (Content.ofBits w).toBits = w)
    ∧ (∀ w : BitVec 48, let c := Content.ofBits w
      c.code = w.extractLsb' 41 7 ∧ c.fields.seq = w.getLsbD 40
      ∧ c.fields.tag.val = (w.extractLsb' 36 4).toNat ∧ c.fields.selector = w.extractLsb' 29 7
      ∧ c.fields.cls.val = (w.extractLsb' 27 2).toNat ∧ c.fields.wait = w.getLsbD 26
      ∧ c.fields.valueA = w.extractLsb' 13 13 ∧ c.fields.valueB = w.extractLsb' 0 13)
    ∧ ∀ r : ReplyRegister, r.reply.handle < 64 → r.reply.valueA < 8192 → r.reply.valueB < 8192 →
      r.toBits.extractLsb' 41 7 = r.echoCode ∧ r.toBits.getLsbD 40 = r.echoSeq
      ∧ (r.toBits.extractLsb' 37 3).toNat = r.intake.code
      ∧ (r.toBits.extractLsb' 32 5).toNat = r.reply.status.code
      ∧ (r.toBits.extractLsb' 26 6).toNat = r.reply.handle
      ∧ (r.toBits.extractLsb' 13 13).toNat = r.reply.valueA
      ∧ (r.toBits.extractLsb' 0 13).toNat = r.reply.valueB

/-- The codes and numbers of Tables 12-2 to 12-5, each as a literal: command codes, intake values,
statuses, record states, holder kinds, ports, notice reasons, health levels, modes, row conditions,
roles and lapse actions (sections 12.1, 12.3 and 12.4); and which record states are committing, cover an
output (R2), and have their channel on or in RETRY (R87), by those numbers. -/
def Obligations.NamedValuesHaveTheirNumbers : Prop :=
  let codes : List (Command × Nat) :=
    [(.identify, 1), (.request, 16), (.release, 17), (.renew, 18), (.resize, 19), (.forceEnd, 20),
      (.lookupOutput, 21), (.nextNotice, 24), (.ackNotice, 25), (.setPatience, 26), (.setCap, 32),
      (.readRail, 33), (.capture, 40), (.flip, 41), (.readImage, 42), (.readRow, 48),
      (.loadStage, 49), (.stageField, 50), (.writeRow, 51), (.reload, 52), (.openPart, 64),
      (.closePart, 65), (.restart, 66)]
  pollCode.toNat = 0
  ∧ (∀ c : Command, (c, c.code.toNat) ∈ codes)
  ∧ (∀ (code : BitVec 7) (c : Command),
      Command.ofCode code = some c ↔ (c, code.toNat) ∈ codes)
  ∧ (∀ st : Status, [Status.fresh, .done, .granted, .waiting, .pending, .started, .unknownCommand,
      .notPermitted, .wrongMode, .badOutput, .barred, .badValue, .badHandle, .notHolder, .tooLate,
      .occupied, .duplicate, .quota, .tableFull, .noRoom, .notEmpty, .noNotice, .captureBusy,
      .nothingCaptured, .storeBusy, .storeFail, .badRange][st.code]? = some st)
  ∧ (∀ i : Intake, [Intake.taken, .repeated, .length, .check, .busy][i.code]? = some i)
  ∧ (∀ r : Reason, r.number ≠ 0 ∧ [Reason.granted, .tripped, .lapsedHeld, .lapsed, .notGranted,
      .revoked, .trippedOut, .forced, .takenOver][r.number - 1]? = some r)
  ∧ (∀ r : Record, r.stateNumber = match r with
      | .free => 0
      | .waiting _ _ _ _ => 1
      | .granted _ _ _ _ _ _ => 2
      | .tripped _ _ _ _ _ _ | .deviceTripped _ _ _ => 3
      | .held _ _ _ => 4
      | .ended _ _ => 5)
  ∧ (∀ r : Record, r.holderKind = match r with
      | .free | .ended _ _ => 0
      | .waiting _ c _ _ | .granted _ c _ _ _ _ | .tripped _ c _ _ _ _ =>
        (match c.port with | .a => 1 | .b => 2)
      | .deviceTripped _ _ _ | .held _ _ _ => 3)
  ∧ (∀ p : Port, portNumber p = match p with | .a => 0 | .b => 1)
  ∧ (∀ x : Health, x.number = match x with | .normal => 0 | .reduced => 1 | .lost => 2)
  ∧ (∀ m : Mode, m.number = match m with | .loading => 0 | .setup => 1 | .service => 2)
  ∧ (∀ c : Condition, c.number = match c with | .good => 0 | .bad => 1)
  ∧ (∀ r : Role, r.number = match r with | .full => 0 | .lease => 1)
  ∧ (∀ a : LapseAction, a.number = match a with | .off => 0 | .hold => 1)
  ∧ ∀ r : Record,
    (r.isFree = true ↔ r.stateNumber = 0) ∧ (r.isWaiting = true ↔ r.stateNumber = 1)
    ∧ (r.isOn = true ↔ r.stateNumber = 2 ∨ r.stateNumber = 4)
    ∧ (r.isTripped = true ↔ r.stateNumber = 3)
    ∧ (r.isCommitting = true ↔ r.stateNumber = 2 ∨ r.stateNumber = 3 ∨ r.stateNumber = 4)
    ∧ (r.isEnded = true ↔ r.stateNumber = 5)
    ∧ ∀ o, r.covers o = true ↔ r.stateNumber ≠ 0 ∧ r.stateNumber ≠ 5
        ∧ ∃ b, r.booking? = some b ∧ b.output = o

/-- The CRC byte is computed as R169 says, bit 47 first, and its examples agree. -/
def Obligations.CrcFollowsItsRule : Prop :=
  (∀ content : BitVec 48, crc8 content =
    ((List.range 48).foldl (fun (reg : BitVec 8) (k : Nat) =>
      let out := (content.getMsbD k).xor reg.msb
      if out then (reg <<< 1) ^^^ 0x2F#8 else reg <<< 1) 0xFF#8) ^^^ 0xFF#8)
  ∧ crc8 0 = 0x9F#8 ∧ crc8 0 ≠ 0x00#8 ∧ crc8 (BitVec.allOnes 48) ≠ 0xFF#8

/-- The packed reply values and image parts hold their items at the bit positions of Tables 12-7 and
12-8, and every bit not named is 0 (R170). -/
def Obligations.PackedValuesByBitPosition : Prop :=
  (∀ (r : Record) (barred : Bool), packLookup r barred =
    (BitVec.ofNat 3 r.stateNumber ++ BitVec.ofNat 2 r.holderKind ++ BitVec.ofNat 4 r.holderTag
      ++ BitVec.ofNat 2 ((r.booking?.map (fun b => b.cls.val)).getD 0) ++ (0 : BitVec 1)
      ++ BitVec.ofBool barred).toNat)
  ∧ (∀ (health : Health) (waiters : Nat), waiters ≤ 48 → packRail health waiters =
    ((0 : BitVec 5) ++ BitVec.ofNat 2 health.number ++ BitVec.ofNat 6 waiters).toNat)
  ∧ (∀ n : Notice, packNotice n =
    ((0 : BitVec 5) ++ BitVec.ofNat 4 n.reason.number ++ BitVec.ofNat 4 n.owedTo.tag.val).toNat)
  ∧ (∀ (o : Output) (entries : Nat), entries ≤ 48 → packNoticeCount o entries =
    (BitVec.ofNat 5 o.val ++ (0 : BitVec 2) ++ BitVec.ofNat 6 entries).toNat)
  ∧ (∀ (m : Mode) (bad : Nat), bad ≤ 30 → packIdentify m bad =
    (BitVec.ofNat 4 Config.revision ++ BitVec.ofNat 2 m.number ++ BitVec.ofNat 7 bad).toNat)
  ∧ (∀ i : Image, i.recordRank ≤ 48 → i.noticeRank ≤ 48 → i.part 0 = some
    ((BitVec.ofNat 3 i.record.stateNumber ++ BitVec.ofNat 2 i.record.holderKind
        ++ BitVec.ofNat 4 i.record.holderTag
        ++ (match i.record.booking? with
            | some b => BitVec.ofNat 2 b.cls.val ++ (1 : BitVec 1)
            | none => 0) ++ (0 : BitVec 1)).toNat,
      ((0 : BitVec 1) ++ BitVec.ofNat 6 i.recordRank ++ BitVec.ofNat 6 i.noticeRank).toNat))
  ∧ (∀ i : Image, (∀ k, i.record.retries? = some k → k ≤ 7) → i.part 1 = some
    ((i.record.booking?.map (fun b => b.current)).getD 0,
      ((match i.record.booking? with
        | some b => (1 : BitVec 1) ++ BitVec.ofNat 5 b.output.val ++ BitVec.ofNat 2 b.rail.val
        | none => (0 : BitVec 8)) ++ (0 : BitVec 1)
        ++ (match i.record.retries? with
          | some k => (1 : BitVec 1) ++ BitVec.ofNat 3 k
          | none => (0 : BitVec 4))).toNat))
  ∧ (∀ i : Image, i.part 2 = some (i.record.term?.getD 0, i.record.countdown?.getD 0))
  ∧ (∀ i : Image, i.part 3 = some
    ((match i.record.notice? with
      | some n => (0 : BitVec 4) ++ BitVec.ofNat 4 n.reason.number
          ++ (match n.owedTo.port with | .a => (0 : BitVec 1) | .b => 1)
          ++ BitVec.ofNat 4 n.owedTo.tag.val
      | none => (0 : BitVec 13)).toNat, i.stamp.toNat))

/-! ## The budget -/

/-- The health reading (R33), the effective limit (R27), the room of a class (R29), the fit test (R30)
and the number of waiters that block a class, which NO_ROOM reports (R31), each from the fields as they
stand. -/
def Obligations.LimitRoomAndFit : Prop :=
  (∀ a : Account, a.reading =
    match a.present, a.full with
    | false, _ => .lost
    | true, false => .reduced
    | true, true => .normal)
  ∧ (∀ a : Account, a.limit = min a.nominal (min a.cap
      (match a.health with | .normal => a.nominal | .reduced => a.reduced | .lost => 0)))
  ∧ (∀ (a : Account) (c : LeaseClass), (a.room c : Int) =
      max 0 ((a.limit : Int) - a.committed - (if c = 0 then 0 else a.reserve)))
  ∧ (∀ (s : State) (r : Rail) (c : LeaseClass) (d : Nat), s.WaitingListsExact →
      (s.fits r c d = true ↔ d ≤ (s.rail r).room c
        ∧ ∀ h b, (s.record h).isWaiting = true → (s.record h).booking? = some b →
            b.rail = r → c < b.cls))
  ∧ (∀ (s : State) (r : Rail) (c : LeaseClass), s.WaitingListsExact →
      s.blockers r c = (List.finRange 48).countP (fun h => (s.record h).isWaiting
        && (s.record h).booking?.any (fun b => b.rail = r && b.cls ≤ c)))

/-- A change of a rail's limit has the outcome of Table 3-4 (R36). That the number revoked is read off
the shorter grant order and a grant off the changed waiting list is the model's (log 24, DEDUCED). -/
def Obligations.LimitChangeActs : Prop :=
  ∀ (s : State) (r : Rail) (old : Nat), s.GrantOrdersExact →
    (s.mode ≠ .service → s.limitChange r old = (s, 0))
    ∧ (s.mode = .service → (s.rail r).limit < (s.rail r).committed →
        s.limitChange r old = (((s.revoke r).scan r).countChange,
          (s.rail r).grantOrder.length - ((s.revoke r).rail r).grantOrder.length))
    ∧ (s.mode = .service → (s.rail r).committed ≤ (s.rail r).limit → old < (s.rail r).limit →
        s.limitChange r old =
          (if ((s.scan r).rail r).waiting = (s.rail r).waiting then s.scan r
            else (s.scan r).countChange, 0))
    ∧ (s.mode = .service → (s.rail r).committed ≤ (s.rail r).limit → (s.rail r).limit ≤ old →
        s.limitChange r old = (s, 0))

/-- A revocation ends committing records, class 3 first and the newest first within a class, until
committed is at or below the limit and no further, each REVOKED or freed (R37), its channel turned off
(R38). Each notice REVOKED joins the end of its port's order, in the order of the endings, and any notice
the record carried leaves its place (R104, R105); the ATTN lines follow (R107). -/
def Obligations.RevocationOrder : Prop :=
  ∀ (s : State) (r : Rail), s.GrantOrdersExact →
    let t := s.revoke r
    let before : Handle → Handle → Prop := fun x y => ∃ b c, (s.record x).booking? = some b
      ∧ (s.record y).booking? = some c
      ∧ (c.cls < b.cls ∨ b.cls = c.cls
          ∧ (s.rail r).grantOrder.idxOf y < (s.rail r).grantOrder.idxOf x)
    ∃ ended : List Handle,
      ended.Pairwise before
      ∧ (∀ x ∈ ended, x ∈ (s.rail r).grantOrder)
      ∧ (t.rail r).grantOrder = (s.rail r).grantOrder.filter (fun y => y ∉ ended)
      ∧ (∀ x ∈ ended, ∀ y ∈ (t.rail r).grantOrder, before x y)
      ∧ (t.rail r).committed
          + (ended.map (fun x => (s.record x).currentOr0)).sum = (s.rail r).committed
      ∧ (t.rail r).limit = (s.rail r).limit ∧ (t.rail r).committed ≤ (s.rail r).limit
      ∧ (∀ x, ended.getLast? = some x →
          (s.rail r).limit < (t.rail r).committed + (s.record x).currentOr0)
      ∧ (∀ x ∈ ended, ∃ b, (s.record x).booking? = some b ∧ t.record x =
          match (s.record x).owedParty? with
          | some c => .ended b ⟨.revoked, c⟩
          | none => .free)
      ∧ (∀ x, x ∉ ended → t.record x = s.record x)
      ∧ (s.NoticeOrdersExact → s.AttnFollowsOrders → ∀ q,
          let order := (s.port q).noticeOrder.filter (fun x => x ∉ ended)
            ++ ended.filter (fun x => (s.record x).countsAgainst = some q)
          t.port q = { s.port q with noticeOrder := order, attnLow := !order.isEmpty })
      ∧ (s.ChannelsFollowRecords → ∀ x ∈ ended, ∀ n, (s.record x).covers n = true →
          t.channel n = { s.channel n with
            state := .off, enableHigh := false, retryTimer := none, tripRaised := false })
      ∧ (∀ n, (∀ x ∈ ended, (s.record x).covers n = false) → t.channel n = s.channel n)
      ∧ (t.rail r).waiting = (s.rail r).waiting ∧ (∀ k, k ≠ r → t.rail k = s.rail k)
      ∧ t.mode = s.mode ∧ t.changeCount = s.changeCount

/-- A scan grants waiters from the head while they fit the room left, and stops at the first that
does not; each grant is that of R56, with its notice last in the port's order and the ATTN line
asserted, in list order (R52, R53). -/
def Obligations.ScanGrantsFromHead : Prop :=
  ∀ (s : State) (r : Rail), s.mode = .service → s.WaitingListsExact →
    let t := s.scan r
    ∃ granted rest, (s.rail r).waiting = granted ++ rest
      ∧ t.rail r = { s.rail r with
          waiting := rest, grantOrder := (s.rail r).grantOrder ++ granted
          committed := (s.rail r).committed
            + (granted.map (fun h => (s.record h).currentOr0)).sum }
      ∧ (∀ k, k ≠ r → t.rail k = s.rail k)
      ∧ (∀ h ∈ granted, ∃ b c term patience, s.record h = .waiting b c term patience
          ∧ t.record h = .granted b c term term (s.outputRow b.output).retryAllowance
              (some ⟨.granted, c⟩)
          ∧ t.channel b.output = { s.channel b.output with
              state := .on, enableHigh := true, retryTimer := none
              tripRaised := (s.channel b.output).faultLow })
      ∧ (∀ h, h ∉ granted → t.record h = s.record h)
      ∧ (∀ n, (∀ h ∈ granted, (s.record h).covers n = false) → t.channel n = s.channel n)
      ∧ (∀ q, (t.port q).noticeOrder = (s.port q).noticeOrder ++ granted.filter (fun h =>
          (s.record h).countsAgainst = some q))
      ∧ (∀ done h more b, granted = done ++ h :: more → (s.record h).booking? = some b →
          b.current ≤ ({ s.rail r with committed := (s.rail r).committed
            + (done.map (fun k => (s.record k).currentOr0)).sum } : Account).room b.cls)
      ∧ (∀ h b, rest.head? = some h → (s.record h).booking? = some b →
          (t.rail r).room b.cls < b.current)
      ∧ t = { s with
          records := t.records, rails := t.rails, channels := t.channels
          portA := t.portA, portB := t.portB }
      ∧ ∀ q, t.port q = { s.port q with
          noticeOrder := (t.port q).noticeOrder
          attnLow := (s.port q).attnLow
            || granted.any (fun h => (s.record h).countsAgainst = some q) }

/-- What ending a record (R5) and freeing one (R6) come to, but for the scan: a committing record
gives up its current, its place and its channel, a waiter its place; the final notice is owed to the
holder or to the party of the notice carried, at the newest rank; a device-held record without a
notice is freed. -/
def Obligations.EndingAndFreeing : Prop :=
  (∀ r : Record, r.owedParty? = match r with
    | .free => none
    | .waiting _ c _ _ | .granted _ c _ _ _ _ | .tripped _ c _ _ _ _ => some c
    | .deviceTripped _ _ n | .held _ _ n =>
      (match n with | some m => some m.owedTo | none => none)
    | .ended _ n => some n.owedTo)
  ∧ ∀ (s : State) (h : Handle) (b : Booking), s.NoticeOrdersExact → s.AttnFollowsOrders →
    s.NoticesFit → s.ChannelsFollowRecords → (s.record h).booking? = some b →
    let gone :=
      if (s.record h).isCommitting then
        (s.onRail b.rail (fun a =>
          { a with committed := a.committed - b.current, grantOrder := a.grantOrder.erase h })
          ).onChannel b.output (fun c =>
            { c with state := .off, enableHigh := false, retryTimer := none, tripRaised := false })
      else if (s.record h).isWaiting then
        s.onRail b.rail (fun a => { a with waiting := a.waiting.erase h })
      else s
    (∀ c reason, (s.record h).isEnded = false → (s.record h).owedParty? = some c →
      s.endRecord h reason = (gone.onPort c.port (fun ps =>
        { ps with noticeOrder := ps.noticeOrder.erase h ++ [h], attnLow := true })).setRecord h
          (.ended b ⟨reason, c⟩))
    ∧ (∀ reason, (s.record h).owedParty? = none →
      s.endRecord h reason = gone.setRecord h .free)
    ∧ ((s.record h).notice? = none → s.freeRecord h = gone.setRecord h .free)
    ∧ (∀ n, (s.record h).notice? = some n →
      s.freeRecord h = (gone.onPort n.owedTo.port (fun ps =>
        { ps with
            noticeOrder := ps.noticeOrder.erase h
            attnLow := !(ps.noticeOrder.erase h).isEmpty })).setRecord h .free)

/-- SET CAP writes the cap, makes the limit change that follows and replies with the new limit and the
number of records revoked (R39); READ RAIL reports one part of an account and writes nothing (R44); a
rail above 3, or a part above 1, is refused. -/
def Obligations.RailCommands : Prop :=
  (∀ (s : State) (p : Port) (f : Fields), s.takes p .setCap f = true →
    (∀ r : Rail, f.selector.toNat = r.val →
      let capped := s.onRail r (fun a => { a with cap := f.valueA.toNat })
      let changed := capped.limitChange r (s.rail r).limit
      exec (.setCap p f) s = .next (changed.1.replied p Command.setCap.code f
        ⟨.done, 0, (capped.rail r).limit, changed.2⟩))
    ∧ (3 < f.selector.toNat →
      exec (.setCap p f) s = .next (s.replied p Command.setCap.code f ⟨.badValue, 0, 0, 0⟩)))
  ∧ (∀ (s : State) (p : Port) (f : Fields), s.takes p .readRail f = true →
    (∀ r : Rail, f.selector.toNat = r.val → f.valueA.toNat = 0 →
      exec (.readRail p f) s = .next (s.replied p Command.readRail.code f
        ⟨.done, 0, (s.rail r).limit, (s.rail r).committed⟩))
    ∧ (∀ r : Rail, f.selector.toNat = r.val → f.valueA.toNat = 1 →
      exec (.readRail p f) s = .next (s.replied p Command.readRail.code f
        ⟨.done, 0, (s.rail r).cap, (s.rail r).health.number * 64 + (s.rail r).waiting.length⟩))
    ∧ (3 < f.selector.toNat ∨ 1 < f.valueA.toNat →
      exec (.readRail p f) s = .next (s.replied p Command.readRail.code f ⟨.badValue, 0, 0, 0⟩)))

/-- A change of a rail's health inputs starts, keeps or abandons a candidate, or with filter time 0
takes it at once (R33, R34); HEALTH_LEVEL_TAKEN takes a candidate shown for the filter time, with
the limit change that follows (R35), and no other (log 17). -/
def Obligations.HealthFilterRuns : Prop :=
  ∀ (s : State) (r : Rail),
    (∀ present full,
      let reading : Health :=
        if present then (if full then .normal else .reduced) else .lost
      let pins := s.onRail r (fun a => { a with present := present, full := full })
      (s.mode = .loading → exec (.healthInputChange r present full) s = .next pins)
      ∧ (s.mode ≠ .loading → reading = (s.rail r).health →
        exec (.healthInputChange r present full) s =
          .next (s.onRail r (fun a =>
            { a with present := present, full := full, candidate := none })))
      ∧ (s.mode ≠ .loading → reading ≠ (s.rail r).health →
        (∃ n, (s.rail r).candidate = some ⟨reading, n⟩) →
        exec (.healthInputChange r present full) s = .next pins)
      ∧ (s.mode ≠ .loading → reading ≠ (s.rail r).health →
        (∀ n, (s.rail r).candidate ≠ some ⟨reading, n⟩) → 0 < (s.rail r).filterTime →
        exec (.healthInputChange r present full) s =
          .next (s.onRail r (fun a =>
            { a with present := present, full := full, candidate := some ⟨reading, 0⟩ })))
      ∧ (s.mode ≠ .loading → reading ≠ (s.rail r).health →
        (∀ n, (s.rail r).candidate ≠ some ⟨reading, n⟩) → (s.rail r).filterTime = 0 →
        exec (.healthInputChange r present full) s =
          .next ((s.onRail r (fun a =>
            { a with present := present, full := full, health := reading, candidate := none })
            ).limitChange r (s.rail r).limit).1))
    ∧ (∀ c, s.mode ≠ .loading → (s.rail r).candidate = some c → (s.rail r).filterTime ≤ c.shown →
      exec (.healthLevelTaken r) s = .next ((s.onRail r (fun a =>
        { a with health := c.level, candidate := none })).limitChange r (s.rail r).limit).1)
    ∧ (s.mode = .loading ∨ (s.rail r).candidate = none
        ∨ (∃ c, (s.rail r).candidate = some c ∧ c.shown < (s.rail r).filterTime) →
      exec (.healthLevelTaken r) s = .next s)

/-! ## Leases -/

/-- REQUEST's refusals, in the order of Table 2-4: each with its reply, and nothing written (R10 to
R13, R16, R77). The records counted against a port's quota are those its tags hold and those without a
holder of a port that carry a notice owed to it, ENDED ones among them (R9). The record found for an
output is the one that covers it (R2). -/
def Obligations.RequestRefusedInOrder : Prop :=
  (∀ (s : State) (p : Port), s.counted p = (List.finRange 48).countP (fun h =>
    match s.record h with
    | .free => false
    | .waiting _ c _ _ | .granted _ c _ _ _ _ | .tripped _ c _ _ _ _ => c.port = p
    | .deviceTripped _ _ n | .held _ _ n =>
      (match n with | some m => m.owedTo.port = p | none => false)
    | .ended _ n => n.owedTo.port = p))
  ∧ (∀ (s : State) (o : Output) (h : Handle), s.CoversOnce →
    (s.covering o = some h ↔ (s.record h).covers o = true))
  ∧ ∀ (s : State) (p : Port) (f : Fields), s.takes p .request f = true →
    let refused : Reply → Prop := fun reply =>
      exec (.request p f) s = .next (s.replied p Command.request.code f reply)
    (23 < f.selector.toNat → refused ⟨.badOutput, 0, 0, 0⟩)
    ∧ ∀ o : Output, f.selector.toNat = o.val →
      let rail := (s.outputRow o).rail
      ((s.channel o).barred = true → refused ⟨.barred, 0, 0, 0⟩)
      ∧ ((s.channel o).barred = false →
        (f.valueA.toNat = 0 ∨ (s.outputRow o).ceiling < f.valueA.toNat ∨ f.valueB.toNat = 0 →
          refused ⟨.badValue, 0, 0, 0⟩)
        ∧ (0 < f.valueA.toNat → f.valueA.toNat ≤ (s.outputRow o).ceiling → 0 < f.valueB.toNat →
          (∀ h c, s.covering o = some h → (s.record h).holder? = some (.client c) →
            refused ⟨if c = ⟨p, f.tag⟩ then .duplicate else .occupied, h.number, 0, 0⟩)
          ∧ ((∀ h c, s.covering o = some h → (s.record h).holder? ≠ some (.client c)) →
            ((s.portRow p).quota ≤ s.counted p → refused ⟨.quota, 0, 0, 0⟩)
            ∧ (s.counted p < (s.portRow p).quota → (∀ h, s.record h ≠ .free) →
              refused ⟨.tableFull, 0, 0, 0⟩)
            ∧ (s.counted p < (s.portRow p).quota → (∃ h, s.record h = .free) →
              s.covering o = none → s.fits rail f.cls f.valueA.toNat = false → f.wait = false →
              refused ⟨.noRoom, 0, (s.rail rail).room f.cls, s.blockers rail f.cls⟩)
            ∧ (∀ h b, s.counted p < (s.portRow p).quota → (∃ h, s.record h = .free) →
              s.covering o = some h → (s.record h).booking? = some b →
              b.current < f.valueA.toNat →
              s.fits rail f.cls (f.valueA.toNat - b.current) = false →
              refused ⟨.noRoom, 0, (s.rail rail).room f.cls, s.blockers rail f.cls⟩))))

/-- REQUEST for an uncovered output that fits is granted at once (R14, R4). -/
def Obligations.RequestGrantsAtOnce : Prop :=
  ∀ (s : State) (p : Port) (f : Fields) (o : Output) (h : Handle), s.takes p .request f = true →
    f.selector.toNat = o.val → (s.channel o).barred = false → 0 < f.valueA.toNat →
    f.valueA.toNat ≤ (s.outputRow o).ceiling → 0 < f.valueB.toNat → s.covering o = none →
    s.counted p < (s.portRow p).quota → s.record h = .free → (∀ k, k < h → s.record k ≠ .free) →
    s.fits (s.outputRow o).rail f.cls f.valueA.toNat = true →
    exec (.request p f) s = .next
      (((((s.setRecord h (.granted ⟨o, (s.outputRow o).rail, f.cls, f.valueA.toNat⟩ ⟨p, f.tag⟩
          f.valueB.toNat f.valueB.toNat (s.outputRow o).retryAllowance none)).onRail
          (s.outputRow o).rail (fun a =>
            { a with
                committed := a.committed + f.valueA.toNat
                grantOrder := a.grantOrder ++ [h] })).onChannel o (fun c =>
            { c with state := .on, enableHigh := true, retryTimer := none
                     tripRaised := c.faultLow })).countChange).replied p Command.request.code f
        ⟨.granted, h.number, f.valueA.toNat, 0⟩)

/-- REQUEST for an uncovered output that does not fit, with WAIT set, waits: behind every waiter of
its class or of higher priority and before every other (R15, R49, R57). -/
def Obligations.RequestEntersList : Prop :=
  ∀ (s : State) (p : Port) (f : Fields) (o : Output) (h : Handle), s.takes p .request f = true →
    s.WaitingListsExact →
    f.selector.toNat = o.val → (s.channel o).barred = false → 0 < f.valueA.toNat →
    f.valueA.toNat ≤ (s.outputRow o).ceiling → 0 < f.valueB.toNat → s.covering o = none →
    s.counted p < (s.portRow p).quota → s.record h = .free → (∀ k, k < h → s.record k ≠ .free) →
    s.fits (s.outputRow o).rail f.cls f.valueA.toNat = false → f.wait = true →
    ∃ ahead behind, (s.rail (s.outputRow o).rail).waiting = ahead ++ behind
      ∧ (∀ x ∈ ahead, ∃ b, (s.record x).booking? = some b ∧ b.cls ≤ f.cls)
      ∧ (∀ x ∈ behind, ∃ b, (s.record x).booking? = some b ∧ f.cls < b.cls)
      ∧ exec (.request p f) s = .next
        ((((s.setRecord h (.waiting ⟨o, (s.outputRow o).rail, f.cls, f.valueA.toNat⟩ ⟨p, f.tag⟩
            f.valueB.toNat (s.port p).patience)).onRail (s.outputRow o).rail (fun a =>
              { a with waiting := ahead ++ h :: behind })).countChange).replied p
            Command.request.code f ⟨.waiting, h.number, f.valueA.toNat, ahead.length + 1⟩)

/-- A claim that fits: the old record ends TAKEN_OVER or is freed, the lowest FREE record becomes the
new lease, GRANTED or TRIPPED as the old was, the channel is not touched, and the rail is scanned
(R77 to R79). -/
def Obligations.ClaimTakesOver : Prop :=
  ∀ (s : State) (p : Port) (f : Fields) (o : Output) (old h : Handle) (held : Booking),
    s.takes p .request f = true →
    f.selector.toNat = o.val → (s.channel o).barred = false → 0 < f.valueA.toNat →
    f.valueA.toNat ≤ (s.outputRow o).ceiling → 0 < f.valueB.toNat →
    s.covering o = some old → (s.record old).holder? = some .device →
    (s.record old).booking? = some held → s.counted p < (s.portRow p).quota →
    (∃ k, s.record k = .free) →
    (f.valueA.toNat ≤ held.current
      ∨ s.fits (s.outputRow o).rail f.cls (f.valueA.toNat - held.current) = true) →
    let left := s.onRail held.rail (fun a =>
      { a with committed := a.committed - held.current, grantOrder := a.grantOrder.erase old })
    let gone := match (s.record old).notice? with
      | some n => (left.onPort n.owedTo.port (fun ps =>
          { ps with noticeOrder := ps.noticeOrder.erase old ++ [old], attnLow := true })).setRecord
            old (.ended held ⟨.takenOver, n.owedTo⟩)
      | none => left.setRecord old .free
    let b : Booking := ⟨o, (s.outputRow o).rail, f.cls, f.valueA.toNat⟩
    let lease : Record :=
      if (s.record old).isTripped then
        .tripped b ⟨p, f.tag⟩ f.valueB.toNat f.valueB.toNat (s.outputRow o).retryAllowance none
      else .granted b ⟨p, f.tag⟩ f.valueB.toNat f.valueB.toNat (s.outputRow o).retryAllowance none
    gone.record h = .free → (∀ k, k < h → gone.record k ≠ .free) →
    exec (.request p f) s = .next
      (((((gone.setRecord h lease).onRail b.rail (fun a =>
          { a with
              committed := a.committed + f.valueA.toNat
              grantOrder := a.grantOrder ++ [h] })).scan b.rail).countChange).replied p
          Command.request.code f ⟨.granted, h.number, f.valueA.toNat, old.number⟩)

/-- RELEASE, RENEW and RESIZE of a handle the party does not hold are refused by R8, with the handle
named. That holds for a selector of 49 to 63 too, outside the field's range in Table 12-2, and above 63,
which its six bits cannot hold, the handle is free: the model's choices (log 10). -/
def Obligations.HandleNotHeldIsRefused : Prop :=
  ∀ (s : State) (p : Port) (c : Command) (f : Fields),
    c ∈ [Command.release, .renew, .resize] → s.takes p c f = true →
    let refused : Status → Nat → Prop := fun status handle =>
      exec (c.frame p f) s = .next (s.replied p c.code f ⟨status, handle, 0, 0⟩)
    (f.selector.toNat = 0 → refused .badHandle 0)
    ∧ (48 < f.selector.toNat → f.selector.toNat ≤ 63 → refused .badHandle f.selector.toNat)
    ∧ (63 < f.selector.toNat → ∃ k, k < 64 ∧ refused .badHandle k)
    ∧ ∀ h : Handle, f.selector.toNat = h.number →
      (s.record h).holder? ≠ some (.client ⟨p, f.tag⟩) →
      (∀ n, (s.record h).notice? = some n → n.owedTo = ⟨p, f.tag⟩ → refused .tooLate h.number)
      ∧ ((∀ n, (s.record h).notice? = some n → n.owedTo ≠ ⟨p, f.tag⟩) →
        refused (if (s.record h).isFree then .badHandle else .notHolder) h.number)

/-- RELEASE frees the record its party holds, with a scan of its rail (R17). -/
def Obligations.ReleaseFreesRecord : Prop :=
  ∀ (s : State) (p : Port) (f : Fields) (h : Handle) (b : Booking), s.takes p .release f = true →
    f.selector.toNat = h.number → (s.record h).holder? = some (.client ⟨p, f.tag⟩) →
    (s.record h).booking? = some b →
    ∃ t, exec (.release p f) s = .next (t.countChange.replied p Command.release.code f
        ⟨.done, h.number, 0, 0⟩)
      ∧ t = (s.freeRecord h).scan b.rail ∧ t.record h = .free

/-- RENEW restarts the countdown: at the term, with the retry allowance restored, of a GRANTED or
TRIPPED record (R66); at the port's patience of a WAITING one (R67). Nothing else changes (R65). -/
def Obligations.RenewRestartsCountdown : Prop :=
  ∀ (s : State) (p : Port) (f : Fields) (h : Handle), s.takes p .renew f = true →
    f.selector.toNat = h.number →
    let renewed : Nat → Nat := fun term => if f.valueB.toNat = 0 then term else f.valueB.toNat
    (∀ b term d k n, s.record h = .granted b ⟨p, f.tag⟩ term d k n →
      exec (.renew p f) s = .next
        (((s.setRecord h (.granted b ⟨p, f.tag⟩ (renewed term) (renewed term)
          (s.outputRow b.output).retryAllowance n)).countChange).replied p Command.renew.code f
          ⟨.done, h.number, renewed term, (s.outputRow b.output).retryAllowance⟩))
    ∧ (∀ b term d k n, s.record h = .tripped b ⟨p, f.tag⟩ term d k n →
      exec (.renew p f) s = .next
        (((s.setRecord h (.tripped b ⟨p, f.tag⟩ (renewed term) (renewed term)
          (s.outputRow b.output).retryAllowance n)).countChange).replied p Command.renew.code f
          ⟨.done, h.number, renewed term, (s.outputRow b.output).retryAllowance⟩))
    ∧ (∀ b term d, s.record h = .waiting b ⟨p, f.tag⟩ term d →
      exec (.renew p f) s = .next
        (((s.setRecord h (.waiting b ⟨p, f.tag⟩ (renewed term) (s.port p).patience)).countChange
          ).replied p Command.renew.code f ⟨.done, h.number, (s.port p).patience, 0⟩))

/-- RESIZE: an out-of-range current is refused; the present current is carried out and changes
nothing (log 15); a lower one gives its room to a scan; a higher one must fit; a waiter's current is
replaced and the rail scanned (R40 to R43). -/
def Obligations.ResizeChangesCurrent : Prop :=
  ∀ (s : State) (p : Port) (f : Fields) (h : Handle) (b : Booking), s.takes p .resize f = true →
    f.selector.toNat = h.number → (s.record h).holder? = some (.client ⟨p, f.tag⟩) →
    (s.record h).booking? = some b →
    let x := f.valueA.toNat
    let resized := s.setRecord h (match s.record h with
      | .waiting b c t d => .waiting { b with current := x } c t d
      | .granted b c t d k n => .granted { b with current := x } c t d k n
      | .tripped b c t d k n => .tripped { b with current := x } c t d k n
      | r => r)
    let answers : State → Reply → Prop := fun t reply =>
      exec (.resize p f) s = .next (t.replied p Command.resize.code f reply)
    (x = 0 ∨ (s.outputRow b.output).ceiling < x → answers s ⟨.badValue, h.number, 0, 0⟩)
    ∧ (0 < x → x ≤ (s.outputRow b.output).ceiling →
      (x = b.current → answers s.countChange ⟨.done, h.number, x, 0⟩)
      ∧ ((s.record h).isCommitting = true → x < b.current →
        answers ((resized.onRail b.rail (fun a =>
          { a with committed := a.committed - (b.current - x) })).scan b.rail).countChange
          ⟨.done, h.number, x, 0⟩)
      ∧ ((s.record h).isCommitting = true → b.current < x →
        s.fits b.rail b.cls (x - b.current) = true →
        answers (resized.onRail b.rail (fun a =>
          { a with committed := a.committed + (x - b.current) })).countChange
          ⟨.done, h.number, x, 0⟩)
      ∧ ((s.record h).isCommitting = true → b.current < x →
        s.fits b.rail b.cls (x - b.current) = false →
        answers s ⟨.noRoom, h.number, (s.rail b.rail).room b.cls, s.blockers b.rail b.cls⟩)
      ∧ ((s.record h).isWaiting = true → x ≠ b.current →
        let after := resized.scan b.rail
        ((after.record h).isWaiting = true →
          answers after.countChange ⟨.waiting, h.number, x, after.recordRank h⟩)
        ∧ ((after.record h).isWaiting = false →
          answers after.countChange ⟨.granted, h.number, x, 0⟩)))

/-- FORCE END ends whatever record it names with reason FORCED, with a scan of its rail; value B
tells whether it was left ENDED or freed. A FREE record, an ENDED one and a handle out of range are
refused (R18; their replies carry no handle: log 16). -/
def Obligations.ForceEndEndsRecord : Prop :=
  ∀ (s : State) (p : Port) (f : Fields), s.takes p .forceEnd f = true →
    let refused : Status → Prop := fun status =>
      exec (.forceEnd p f) s = .next (s.replied p Command.forceEnd.code f ⟨status, 0, 0, 0⟩)
    (f.selector.toNat = 0 ∨ 48 < f.selector.toNat → refused .badHandle)
    ∧ ∀ h : Handle, f.selector.toNat = h.number →
      (s.record h = .free → refused .badHandle)
      ∧ ((s.record h).isEnded = true → refused .tooLate)
      ∧ (∀ b, (s.record h).booking? = some b → (s.record h).isEnded = false →
        exec (.forceEnd p f) s = .next
          ((((s.endRecord h .forced).scan b.rail).countChange).replied p Command.forceEnd.code f
            ⟨.done, h.number, 0, if (s.record h).owedParty? = none then 0 else 1⟩))

/-- LOOKUP OUTPUT reports the record that covers an output, or none (R19); NEXT NOTICE reports the notice
of rank 1 of the asking port and the number of entries (R108); neither writes anything. -/
def Obligations.ReadingTheTable : Prop :=
  (∀ (s : State) (p : Port) (f : Fields), s.takes p .lookupOutput f = true →
    let answers : Reply → Prop := fun reply =>
      exec (.lookupOutput p f) s = .next (s.replied p Command.lookupOutput.code f reply)
    (23 < f.selector.toNat → answers ⟨.badOutput, 0, 0, 0⟩)
    ∧ ∀ o : Output, f.selector.toNat = o.val →
      ((∀ h, (s.record h).covers o = false) →
        answers ⟨.done, 0, 0, if (s.channel o).barred then 1 else 0⟩)
      ∧ (∀ h b, s.CoversOnce → (s.record h).covers o = true → (s.record h).booking? = some b →
        answers ⟨.done, h.number, b.current, packLookup (s.record h) (s.channel o).barred⟩))
  ∧ (∀ (s : State) (p : Port) (f : Fields), s.takes p .nextNotice f = true →
    ((s.port p).noticeOrder = [] →
      exec (.nextNotice p f) s =
        .next (s.replied p Command.nextNotice.code f ⟨.noNotice, 0, 0, 0⟩))
    ∧ (∀ h rest n b, (s.port p).noticeOrder = h :: rest → (s.record h).notice? = some n →
      (s.record h).booking? = some b →
      exec (.nextNotice p f) s = .next (s.replied p Command.nextNotice.code f
        ⟨.done, h.number, n.reason.number * 16 + n.owedTo.tag.val,
          b.output.val * 256 + (s.port p).noticeOrder.length⟩)))

/-- ACK NOTICE: refused without a notice owed to the asking party; frees an ENDED record; clears the
non-final notice of any other (R109 to R111). A refusal carries the handle named, for a selector of 49
to 63 too, outside the field's range in Table 12-2; above 63, which its six bits cannot hold, the handle
is free: the model's choices (log 10). -/
def Obligations.AckNoticeClears : Prop :=
  ∀ (s : State) (p : Port) (f : Fields), s.takes p .ackNotice f = true →
    let answers : State → Reply → Prop := fun t reply =>
      exec (.ackNotice p f) s = .next (t.replied p Command.ackNotice.code f reply)
    (f.selector.toNat = 0 → answers s ⟨.badHandle, 0, 0, 0⟩)
    ∧ (48 < f.selector.toNat → f.selector.toNat ≤ 63 →
      answers s ⟨.badHandle, f.selector.toNat, 0, 0⟩)
    ∧ (63 < f.selector.toNat → ∃ k, k < 64 ∧ answers s ⟨.badHandle, k, 0, 0⟩)
    ∧ ∀ h : Handle, f.selector.toNat = h.number →
      ((∀ n, (s.record h).notice? = some n → n.owedTo ≠ ⟨p, f.tag⟩) →
        answers s ⟨.noNotice, h.number, 0, 0⟩)
      ∧ (∀ n, (s.record h).notice? = some n → n.owedTo = ⟨p, f.tag⟩ →
        let cleared := s.onPort p (fun ps =>
          { ps with
              noticeOrder := ps.noticeOrder.erase h
              attnLow := !(ps.noticeOrder.erase h).isEmpty })
        ((s.record h).isEnded = true →
          answers (cleared.setRecord h .free).countChange ⟨.done, h.number, n.reason.number, 1⟩)
        ∧ ((s.record h).isEnded = false →
          answers (cleared.setRecord h (match s.record h with
            | .granted b c t d k _ => .granted b c t d k none
            | .tripped b c t d k _ => .tripped b c t d k none
            | .deviceTripped b k _ => .deviceTripped b k none
            | .held b k _ => .held b k none
            | r => r)).countChange ⟨.done, h.number, n.reason.number, 0⟩))

/-! ## Timers, trips and inputs -/

/-- The ticks lower each running countdown or retry timer that is due by one (R63, R93; the masks: log
12). Outside LOADING a TERM_TIMER_TICK also shows each health filter's candidate that is due for 10 ms
more (R34; that it is this tick which carries the filters' time is the model's choice, log 13). Nothing
else changes. -/
def Obligations.TimerTicksLower : Prop :=
  ∀ s : State,
    (∀ due : TermTick, ∃ t, exec (.termTimerTick due) s = .next t
      ∧ t = { s with records := t.records, rails := t.rails }
      ∧ (∀ r, t.rail r =
        if s.mode ≠ .loading ∧ due.filters.getLsbD r.val = true then
          { s.rail r with
            candidate := (s.rail r).candidate.map (fun c => { c with shown := c.shown + 1 }) }
        else s.rail r)
      ∧ ∀ h, t.record h =
        if due.countdowns.getLsbD h.val then
          match s.record h with
          | .waiting b c term d => .waiting b c term (d - 1)
          | .granted b c term d k n => .granted b c term (d - 1) k n
          | .tripped b c term d k n => .tripped b c term (d - 1) k n
          | r => r
        else s.record h)
    ∧ (∀ due : BitVec 24, ∃ t, exec (.retryTimerTick due) s = .next t
      ∧ t = { s with channels := t.channels }
      ∧ ∀ n, t.channel n =
        if due.getLsbD n.val then
          { s.channel n with retryTimer := (s.channel n).retryTimer.map (fun k => k - 1) }
        else s.channel n)

/-- PATIENCE_EXPIRY of a waiter whose patience has run out ends it NOT_GRANTED, with a scan (R58). LAPSE of
a port-held record whose term has run out ends it LAPSED with a scan under OFF, and passes it to DEVICE
owing LAPSED_HELD under HOLD (R69 to R71). Any other does nothing (R63, log 17). -/
def Obligations.ExpiriesEndOrHold : Prop :=
  (∀ (s : State) (h : Handle),
    (∀ b c term, s.record h = .waiting b c term 0 →
      exec (.patienceExpiry h) s =
        .next ((s.endRecord h .notGranted).scan b.rail).countChange)
    ∧ ((∀ b c term, s.record h ≠ .waiting b c term 0) →
      exec (.patienceExpiry h) s = .next s))
  ∧ (∀ (s : State) (h : Handle), s.NoticeOrdersExact → s.NoticesFit →
    let owed : Client → State := fun c => s.onPort c.port (fun ps =>
      { ps with noticeOrder := ps.noticeOrder.erase h ++ [h], attnLow := true })
    (∀ b c term k n, s.record h = .granted b c term 0 k n ∨ s.record h = .tripped b c term 0 k n →
      (s.outputRow b.output).lapse = .off →
      exec (.lapse h) s = .next ((s.endRecord h .lapsed).scan b.rail).countChange)
    ∧ (∀ b c term k n, s.record h = .granted b c term 0 k n →
      (s.outputRow b.output).lapse = .hold →
      exec (.lapse h) s = .next (((owed c).setRecord h
        (.held b k (some ⟨.lapsedHeld, c⟩))).countChange))
    ∧ (∀ b c term k n, s.record h = .tripped b c term 0 k n →
      (s.outputRow b.output).lapse = .hold →
      exec (.lapse h) s = .next (((owed c).setRecord h
        (.deviceTripped b k (some ⟨.lapsedHeld, c⟩))).countChange))
    ∧ ((∀ b c term k n, s.record h ≠ .granted b c term 0 k n
        ∧ s.record h ≠ .tripped b c term 0 k n) → exec (.lapse h) s = .next s))

/-- TRIP: a raised trip takes a retry and starts the retry delay, with a TRIPPED notice to a port holder,
or with no retry left ends the record TRIPPED_OUT with a scan (R89 to R92). RETRY_DELAY_END of a timer
that has reached 0 turns the channel on again, the record GRANTED or HELD and all else kept (R94). A
trip not raised and a delay not ended do nothing (R88, R93, log 17). -/
def Obligations.TripsAndRestarts : Prop :=
  (∀ (s : State) (n : Output), s.NoticeOrdersExact → s.NoticesFit → s.CoversOnce →
    let retrying := s.onChannel n (fun c =>
      { c with state := .retry, enableHigh := false, tripRaised := false
               retryTimer := some (s.outputRow n).retryDelay })
    ((s.channel n).tripRaised = false → exec (.trip n) s = .next s)
    ∧ ∀ h, (s.channel n).tripRaised = true → (s.record h).covers n = true →
      (∀ b c term d k m, s.record h = .granted b c term d (k + 1) m →
        exec (.trip n) s = .next (((retrying.onPort c.port (fun ps =>
          { ps with noticeOrder := ps.noticeOrder.erase h ++ [h], attnLow := true })).setRecord h
            (.tripped b c term d k (some ⟨.tripped, c⟩))).countChange))
      ∧ (∀ b k m, s.record h = .held b (k + 1) m →
        exec (.trip n) s = .next ((retrying.setRecord h (.deviceTripped b k m)).countChange))
      ∧ (∀ b c term d m, s.record h = .granted b c term d 0 m ∨ s.record h = .held b 0 m →
        exec (.trip n) s = .next ((s.endRecord h .trippedOut).scan b.rail).countChange))
  ∧ (∀ (s : State) (n : Output), s.CoversOnce →
    let on := s.onChannel n (fun c =>
      { c with state := .on, enableHigh := true, retryTimer := none, tripRaised := c.faultLow })
    ((s.channel n).retryTimer ≠ some 0 → exec (.retryDelayEnd n) s = .next s)
    ∧ ∀ h, (s.channel n).retryTimer = some 0 → (s.record h).covers n = true →
      (∀ b c term d k m, s.record h = .tripped b c term d k m →
        exec (.retryDelayEnd n) s =
          .next (on.setRecord h (.granted b c term d k m)).countChange)
      ∧ (∀ b k m, s.record h = .deviceTripped b k m →
        exec (.retryDelayEnd n) s = .next (on.setRecord h (.held b k m)).countChange))

/-- A fall of FLTn raises a trip while the channel is ON and only then (R88); a rise withdraws
nothing (R100). A fall of an input that is low is none (log 18). -/
def Obligations.FaultEdgesRaiseTrips : Prop :=
  ∀ (s : State) (n : Output),
    ((s.channel n).faultLow = false → (s.channel n).state = .on →
      exec (.faultFall n) s = .next (s.onChannel n (fun c =>
        { c with faultLow := true, tripRaised := true })))
    ∧ ((s.channel n).faultLow = false → (s.channel n).state ≠ .on →
      exec (.faultFall n) s = .next (s.onChannel n (fun c => { c with faultLow := true })))
    ∧ ((s.channel n).faultLow = true → exec (.faultFall n) s = .next s)
    ∧ exec (.faultRise n) s = .next (s.onChannel n (fun c => { c with faultLow := false }))

/-! ## Snapshots -/

/-- CAPTURE is refused by its checks in order, or copies from an empty back buffer (R118); FLIP delivers
a completed capture to the front buffer, and is refused in COPYING and in IDLE (R121); READ IMAGE reads
one part of one image of the front buffer and writes nothing (R122). That the ranks are read in part 0,
by Table 12-8, and not in the parts where R122's own table lists them, is DEDUCED (log 28). -/
def Obligations.SnapshotCommands : Prop :=
  (∀ (s : State) (p : Port) (f : Fields), s.takes p .capture f = true →
    let count := f.valueA.toNat
    let refused : Status → Prop := fun status =>
      exec (.capture p f) s = .next (s.replied p Command.capture.code f ⟨status, 0, 0, 0⟩)
    (count = 0 ∨ 16 < count → refused .badValue)
    ∧ (0 < count → count ≤ 16 →
      (f.selector.toNat = 0 ∨ 48 < f.selector.toNat + count - 1 → refused .badRange)
      ∧ ∀ first : Handle, f.selector.toNat = first.number →
        f.selector.toNat + count - 1 ≤ 48 →
        (∀ g m l, (s.port p).capture = .copying g m l → refused .captureBusy)
        ∧ ((∀ g m l, (s.port p).capture ≠ .copying g m l) →
          exec (.capture p f) s = .next ((s.onPort p (fun ps =>
            { ps with capture := .copying first count [] })).replied p Command.capture.code f
              ⟨.started, first.number, count, s.changeCount.toNat⟩))))
  ∧ (∀ (s : State) (p : Port) (f : Fields), s.takes p .flip f = true →
    let refused : Status → Prop := fun status =>
      exec (.flip p f) s = .next (s.replied p Command.flip.code f ⟨status, 0, 0, 0⟩)
    (∀ g m l, (s.port p).capture = .copying g m l → refused .captureBusy)
    ∧ ((s.port p).capture = .idle → refused .nothingCaptured)
    ∧ (∀ g i l z, (s.port p).capture = .complete ⟨g, i :: l⟩ → (i :: l).getLast? = some z →
      exec (.flip p f) s = .next ((s.onPort p (fun ps =>
        { ps with front := some ⟨g, i :: l⟩, capture := .idle })).replied p Command.flip.code f
          ⟨.done, g.number, i.stamp.toNat, z.stamp.toNat⟩)))
  ∧ (∀ (s : State) (p : Port) (f : Fields), s.takes p .readImage f = true →
    let answers : Reply → Prop := fun reply =>
      exec (.readImage p f) s = .next (s.replied p Command.readImage.code f reply)
    (3 < f.valueA.toNat → answers ⟨.badValue, 0, 0, 0⟩)
    ∧ (f.valueA.toNat ≤ 3 →
      ((s.port p).front = none → answers ⟨.nothingCaptured, 0, 0, 0⟩)
      ∧ ∀ buffer, (s.port p).front = some buffer →
        (buffer.images.length ≤ f.selector.toNat → answers ⟨.badRange, 0, 0, 0⟩)
        ∧ (∀ i a b, buffer.images[f.selector.toNat]? = some i →
          i.part f.valueA.toNat = some (a, b) → answers ⟨.done, i.handle.number, a, b⟩)))

/-- IMAGE_COPY copies the next record as it stands, with its ranks and the change count, and the last
copy completes the capture (R117, R119). Without a capture in COPYING no image is copied (R124), and
that the command then changes nothing is DEDUCED (log 17). The
ranks are the record's places, counted from 1, in its rail's waiting list (R48) or grant order (R32) and
in the notice order of the port its notice is owed to (R102), and 0 where it has none. -/
def Obligations.ImageCopyAdvances : Prop :=
  ∀ (s : State) (p : Port),
    (∀ first count images k, (s.port p).capture = .copying first count images →
      k.val = first.val + images.length →
      let image : Image :=
        { handle := k, record := s.record k, recordRank := s.recordRank k
          noticeRank := s.noticeRank k, stamp := s.changeCount }
      exec (.imageCopy p) s = .next (s.onPort p (fun ps => { ps with capture :=
        (if images.length + 1 < count then .copying first count (images ++ [image])
          else .complete ⟨first, images ++ [image]⟩) })))
    ∧ ((∀ g m l, (s.port p).capture ≠ .copying g m l) → exec (.imageCopy p) s = .next s)
    ∧ ∀ (h : Handle) (ahead behind : List Handle), h ∉ ahead →
      (∀ b, (s.record h).isWaiting = true → (s.record h).booking? = some b →
        (s.rail b.rail).waiting = ahead ++ h :: behind → s.recordRank h = ahead.length + 1)
      ∧ (∀ b, (s.record h).isCommitting = true → (s.record h).booking? = some b →
        (s.rail b.rail).grantOrder = ahead ++ h :: behind → s.recordRank h = ahead.length + 1)
      ∧ (∀ n, (s.record h).notice? = some n →
        (s.port n.owedTo.port).noticeOrder = ahead ++ h :: behind →
        s.noticeRank h = ahead.length + 1)
      ∧ ((s.record h).isWaiting = false → (s.record h).isCommitting = false → s.recordRank h = 0)
      ∧ ((s.record h).notice? = none → s.noticeRank h = 0)

/-! ## The profile store -/

/-- STAGE FIELD writes one staging field, whatever its range (R133); LOAD STAGE copies a shadow row's
fields, those of other kinds kept (R134); READ ROW reports one field of a row's kind and its condition
(R135). -/
def Obligations.StagingAndReading : Prop :=
  ∀ (s : State) (p : Port) (f : Fields),
    (s.takes p .stageField f = true →
      (∀ k : Fin 13, f.selector.toNat = k.val →
        exec (.stageField p f) s = .next ({ s with
          staging := s.staging.set k.val f.valueA.toNat k.isLt }.replied p
            Command.stageField.code f ⟨.done, 0, f.valueA.toNat, k.val⟩))
      ∧ (12 < f.selector.toNat →
        exec (.stageField p f) s = .next (s.replied p Command.stageField.code f
          ⟨.badValue, 0, 0, 0⟩)))
    ∧ (s.takes p .loadStage f = true →
      (∀ k : Fin 30, f.selector.toNat = k.val → ∃ t : State,
        exec (.loadStage p f) s = .next ({ s with staging := t.staging }.replied p
          Command.loadStage.code f
          ⟨.done, 0, k.val, if s.shadow.cond (RowId.ofFin k) = Condition.good then 0 else 1⟩)
        ∧ ∀ j : Fin 13, t.staged j =
          (((s.shadow.row (RowId.ofFin k)).field? j.val).getD (s.staged j)))
      ∧ (29 < f.selector.toNat →
        exec (.loadStage p f) s = .next (s.replied p Command.loadStage.code f
          ⟨.badValue, 0, 0, 0⟩)))
    ∧ (s.takes p .readRow f = true →
      (∀ (k : Fin 30) v, f.selector.toNat = k.val →
        (s.shadow.row (RowId.ofFin k)).field? f.valueA.toNat = some v →
        exec (.readRow p f) s = .next (s.replied p Command.readRow.code f
          ⟨.done, 0, v, if s.shadow.cond (RowId.ofFin k) = Condition.good then 0 else 1⟩))
      ∧ (∀ k : Fin 30, f.selector.toNat = k.val →
        (s.shadow.row (RowId.ofFin k)).field? f.valueA.toNat = none →
        exec (.readRow p f) s = .next (s.replied p Command.readRow.code f ⟨.badValue, 0, 0, 0⟩))
      ∧ (29 < f.selector.toNat →
        exec (.readRow p f) s = .next (s.replied p Command.readRow.code f
          ⟨.badValue, 0, 0, 0⟩)))

/-- The rows by their numbers, 0 to 23 the outputs, 24 to 27 the rails, 28 Port A and 29 Port B (R126);
the bad-row count (R127); an output is barred when its row is BAD, when its row marks it not in use, or
when the row of its rail is BAD (R12, R97); a row written is GOOD with its values (R138), and one spoilt
is BAD with its defaults (R128); the fields of a row by their numbers, and the range each is
tested against (Tables 9-1 and 12-6). -/
def Obligations.RowFieldsAndRanges : Prop :=
  (∀ k : Fin 30, (RowId.ofFin k).number = k.val
    ∧ (∀ n : Output, k.val = n.val → RowId.ofFin k = .output n)
    ∧ (∀ r : Rail, k.val = 24 + r.val → RowId.ofFin k = .rail r)
    ∧ (k.val = 28 → RowId.ofFin k = .port .a) ∧ (k.val = 29 → RowId.ofFin k = .port .b))
  ∧ (∀ f : Profile, f.badRows =
    (List.finRange 24).countP (fun n => (f.outputs.get n).cond = .bad)
      + (List.finRange 4).countP (fun r => (f.rails.get r).cond = .bad)
      + (if f.portA.cond = .bad then 1 else 0) + (if f.portB.cond = .bad then 1 else 0))
  ∧ (∀ (f : Profile) (n : Output), f.bars n = true ↔
    (f.outputs.get n).cond = .bad ∨ (f.outputs.get n).vals.inUse = false
      ∨ (f.rails.get (f.outputs.get n).vals.rail).cond = .bad)
  ∧ (∀ (f : Profile) (w : RowWrite), f.write w = match w with
    | .output n v => { f with outputs := f.outputs.set n.val ⟨.good, v⟩ n.isLt }
    | .rail r v => { f with rails := f.rails.set r.val ⟨.good, v⟩ r.isLt }
    | .port .a v => { f with portA := ⟨.good, v⟩ }
    | .port .b v => { f with portB := ⟨.good, v⟩ })
  ∧ (∀ (f : Profile) (i : RowId), f.spoil i = match i with
    | .output n =>
      { f with outputs := f.outputs.set n.val ⟨.bad, ⟨false, 0, 0, .off, 0, 1⟩⟩ n.isLt }
    | .rail r => { f with rails := f.rails.set r.val ⟨.bad, ⟨0, 0, 0, 0⟩⟩ r.isLt }
    | .port .a => { f with portA := ⟨.bad, ⟨.full, 24, 100⟩⟩ }
    | .port .b => { f with portB := ⟨.bad, ⟨if f.portA.cond = .good ∧ f.portA.vals.role = .lease
        then .full else .lease, 24, 100⟩⟩ })
  ∧ (∀ n v k, (RowWrite.output n v).field? k =
    [v.inUse.toNat, v.rail.val, v.ceiling, (match v.lapse with | .off => 0 | .hold => 1),
      v.retryAllowance, v.retryDelay][k]?)
  ∧ (∀ r v k, (RowWrite.rail r v).field? k =
    if k < 6 then none else [v.nominal, v.reduced, v.reserve, v.filter][k - 6]?)
  ∧ (∀ p v k, (RowWrite.port p v).field? k =
    if k < 10 then none
    else [(match v.role with | .full => 0 | .lease => 1), v.quota, v.patience][k - 10]?)
  ∧ (∀ (k : Fin 13) (v nominal : Nat), fieldInRange k v nominal =
    decide (([0, 0, 0, 0, 0, 1, 0, 0, 0, 0, 0, 0, 1] : List Nat)[k.val]?.getD 0 ≤ v
      ∧ v ≤ ([1, 3, 8191, 1, 7, 255, 8191, nominal, 8191, 15, 1, 48, 8191] : List Nat)[k.val]?.getD
        0))

/-- WRITE ROW's checks in order, and a write put in flight as the port's slow command with a copy of
the staged fields (R136, R137, R161). -/
def Obligations.WriteRowStartsWrite : Prop :=
  ∀ (s : State) (p : Port) (f : Fields), s.takes p .writeRow f = true →
    let refused : Reply → Prop := fun reply =>
      exec (.writeRow p f) s = .next (s.replied p Command.writeRow.code f reply)
    (29 < f.selector.toNat → refused ⟨.badValue, 0, 0, 0⟩)
    ∧ ∀ k : Fin 30, f.selector.toNat = k.val →
      let i := RowId.ofFin k
      let numbers : List (Fin 13) := match i with
        | .output _ => [0, 1, 2, 3, 4, 5] | .rail _ => [6, 7, 8, 9] | .port _ => [10, 11, 12]
      let inRange : Fin 13 → Prop := fun j => fieldInRange j (s.staged j) (s.staged 6) = true
      (s.write ≠ none → refused ⟨.storeBusy, 0, 0, 0⟩)
      ∧ (s.write = none →
        (∀ j, j ∈ numbers → ¬ inRange j → (∀ m, m ∈ numbers → m < j → inRange m) →
          refused ⟨.badValue, 0, j.val, 1⟩)
        ∧ ((∀ j, j ∈ numbers → inRange j) →
          (∀ q, i = .port q → s.staged 10 = 1 →
            ((s.portRow q.other).role = .lease ∨ (s.shadow.port q.other).cond = .bad) →
            refused ⟨.badValue, 0, 10, 2⟩)
          ∧ ((∀ q, i = .port q → s.staged 10 = 1 →
              (s.portRow q.other).role = .full ∧ (s.shadow.port q.other).cond = .good) →
            ∃ w : RowWrite, w.id = i ∧ (∀ j, j ∈ numbers → w.field? j.val = some (s.staged j))
              ∧ exec (.writeRow p f) s = .next (({ s with write := some ⟨p, w⟩ }.onPort p (fun ps =>
                { ps with slow := some .writeRow })).replied p Command.writeRow.code f
                  ⟨.pending, 0, k.val, 0⟩))))

/-- The completion of a row write: the shadow row GOOD with the values written, or after a verify
failure BAD with its defaults; the account, the barred flags or the patience the row feeds; and the
writer's reply (R138, R139, R97, R26, R59). Whether the read-back agrees is the command's operand (log
8, the model's choice), and the array row after a failure is one of three (log 7, a free value). With no
write in flight the completion changes nothing (log 17, DEDUCED). -/
def Obligations.WriteRowCompletes : Prop :=
  ∀ (s : State) (agrees : Bool),
    (s.write = none → exec (.writeRowCompletion agrees) s = .next s)
    ∧ ∀ q w, s.write = some ⟨q, w⟩ → ∃ t, exec (.writeRowCompletion agrees) s = .next t
      ∧ t.shadow = (if agrees then s.shadow.write w else s.shadow.spoil w.id)
      ∧ (agrees = true → t.array = s.array.write w ∧ t.freeDraws = s.freeDraws)
      ∧ (agrees = false → t.array = s.array ∨ t.array = s.array.write w
          ∨ t.array = s.array.spoil w.id)
      ∧ t.write = none
      ∧ (∀ n, (w.id = .output n ∨ w.id = .rail (t.outputRow n).rail) →
          t.channel n = { s.channel n with
            state := if t.shadow.bars n then .barred else .off
            enableHigh := false, barred := t.shadow.bars n, retryTimer := none
            tripRaised := false })
      ∧ (∀ n, w.id ≠ .output n → w.id ≠ .rail (t.outputRow n).rail → t.channel n = s.channel n)
      ∧ (∀ r, w.id ≠ .rail r → t.rail r = s.rail r)
      ∧ (∀ r, w.id = .rail r →
          let row := (t.shadow.rails.get r).vals
          (t.rail r).nominal = row.nominal ∧ (t.rail r).reduced = row.reduced
          ∧ (t.rail r).reserve = row.reserve ∧ (t.rail r).filterTime = row.filter
          ∧ (t.rail r).cap = (s.rail r).cap ∧ (t.rail r).committed = (s.rail r).committed
          ∧ (∀ c, (s.rail r).candidate = some c → row.filter ≤ c.shown →
              (t.rail r).health = c.level ∧ (t.rail r).candidate = none)
          ∧ ((∀ c, (s.rail r).candidate = some c → c.shown < row.filter) →
              (t.rail r).health = (s.rail r).health
              ∧ (t.rail r).candidate = (s.rail r).candidate))
      ∧ (∀ k, t.port k = { s.port k with
          patience := if w.id = .port k then (t.portRow k).patience else (s.port k).patience
          slow := if k = q then none else (s.port k).slow
          register := if k = q then
              { (s.port k).register with
                reply := ⟨if agrees then .done else .storeFail, 0, w.id.number, 0⟩ }
            else (s.port k).register })
      ∧ t.records = s.records ∧ t.changeCount = s.changeCount ∧ t.mode = s.mode
      ∧ t.staging = s.staging ∧ t.load = s.load

/-- RELOAD puts the part in LOADING with a load at row 0 as the port's slow command, unless a write is in
flight (R141). ROW_READ reads the next row of a load: GOOD with the array's values where it checks, else
BAD with its defaults (R128, R129); row 29 ends the load with the hand-offs of R130 and RELOAD's reply.
With no load running ROW_READ changes nothing (log 17, DEDUCED). -/
def Obligations.LoadsReadTheArray : Prop :=
  (∀ (s : State) (p : Port) (f : Fields), s.takes p .reload f = true →
    (s.write ≠ none →
      exec (.reload p f) s = .next (s.replied p Command.reload.code f ⟨.storeBusy, 0, 0, 0⟩))
    ∧ (s.write = none →
      exec (.reload p f) s = .next (({ s with mode := .loading, load := some 0 }.onPort p (fun ps =>
        { ps with slow := some .reload })).replied p Command.reload.code f ⟨.pending, 0, 0, 0⟩)))
  ∧ (∀ s : State,
    (s.load = none → exec .rowRead s = .next s)
    ∧ ∀ k : Fin 30, s.load = some k → ∃ t, exec .rowRead s = .next t
      ∧ t.shadow = (match RowId.ofFin k with
        | .output n => s.shadow.setOutput n
            (if (s.array.outputs.get n).cond = .good then s.array.outputs.get n
              else ⟨.bad, ⟨false, 0, 0, .off, 0, 1⟩⟩)
        | .rail r => s.shadow.setRail r
            (if (s.array.rails.get r).cond = .good then s.array.rails.get r
              else ⟨.bad, ⟨0, 0, 0, 0⟩⟩)
        | .port .a => { s.shadow with portA :=
            if s.array.portA.cond = .good then s.array.portA else ⟨.bad, ⟨.full, 24, 100⟩⟩ }
        | .port .b => { s.shadow with portB :=
            if s.array.portB.cond = .good then s.array.portB
            else ⟨.bad, ⟨if s.shadow.portA.cond = .good ∧ s.shadow.portA.vals.role = .lease then
                .full else .lease, 24, 100⟩⟩ })
      ∧ (∀ h : k.val < 29,
          t = { s with shadow := t.shadow, load := some ⟨k.val + 1, by omega⟩ })
      ∧ (k.val = 29 →
          t.mode = .setup ∧ t.load = none
          ∧ (∀ r, t.rail r =
              { s.rail r with
                nominal := (t.shadow.rails.get r).vals.nominal
                reduced := (t.shadow.rails.get r).vals.reduced
                reserve := (t.shadow.rails.get r).vals.reserve
                filterTime := (t.shadow.rails.get r).vals.filter
                health := (s.rail r).reading, candidate := none })
          ∧ (∀ n, t.channel n = { s.channel n with
              state := if t.shadow.bars n then .barred else .off
              enableHigh := false, barred := t.shadow.bars n, retryTimer := none
              tripRaised := false })
          ∧ (∀ p, t.port p = { s.port p with
              patience := (t.portRow p).patience
              slow := if (s.port p).slow = some .reload then none else (s.port p).slow
              register := if (s.port p).slow = some .reload then
                  { (s.port p).register with reply := ⟨.done, 0, t.shadow.badRows, 0⟩ }
                else (s.port p).register })
          ∧ t.records = s.records ∧ t.changeCount = s.changeCount ∧ t.array = s.array
          ∧ t.staging = s.staging ∧ t.write = s.write))

/-! ## Modes -/

/-- OPEN enters SERVICE and changes nothing else, unless a write is in flight (R148). CLOSE enters SETUP
when every record is FREE, abandoning captures, and is refused NOT_EMPTY otherwise (R149, R124). -/
def Obligations.OpenAndClose : Prop :=
  (∀ (s : State) (p : Port) (f : Fields), s.takes p .openPart f = true →
    (s.write ≠ none →
      exec (.openPart p f) s = .next (s.replied p Command.openPart.code f ⟨.storeBusy, 0, 0, 0⟩))
    ∧ (s.write = none →
      exec (.openPart p f) s = .next ({ s with mode := .service }.replied p Command.openPart.code f
        ⟨.done, 0, s.shadow.badRows,
          (List.finRange 24).countP (fun n => (s.channel n).barred)⟩)))
  ∧ (∀ (s : State) (p : Port) (f : Fields), s.takes p .closePart f = true →
    ((∀ h, s.record h = .free) →
      exec (.closePart p f) s = .next (({ s with mode := .setup }.onPort .a (fun ps =>
        { ps with capture := .idle })).onPort .b (fun ps => { ps with capture := .idle })
          |>.replied p Command.closePart.code f ⟨.done, 0, 0, 0⟩))
    ∧ ((∃ h, s.record h ≠ .free) →
      exec (.closePart p f) s = .next (s.replied p Command.closePart.code f
        ⟨.notEmpty, 0, (List.finRange 48).countP (fun h => s.record h ≠ .free),
          (List.finRange 48).countP (fun h => (s.record h).isEnded)⟩)))

/-- RESTART, whole, from a state that keeps the laws: the records of Table 2-5, the accounts, the
channels, both ports and the replies (R24, R47, R101, R115, R125, R150, R151, R165). -/
def Obligations.RestartKeepsHolds : Prop :=
  ∀ (s : State) (p : Port) (f : Fields), s.takes p .restart f = true → s.Sound →
    ∃ t, exec (.restart p f) s = .next t
      ∧ (∀ h, t.record h = match s.record h with
        | .granted b _ _ _ k _ =>
          if (s.outputRow b.output).lapse = .hold then .held b k none else .free
        | .tripped b _ _ _ k _ =>
          if (s.outputRow b.output).lapse = .hold then .deviceTripped b k none else .free
        | .deviceTripped b k _ => .deviceTripped b k none
        | .held b k _ => .held b k none
        | _ => .free)
      ∧ (∀ r, t.rail r =
        let kept := (s.rail r).grantOrder.filter (fun h => !(t.record h).isFree)
        { s.rail r with
            waiting := [], cap := 8191, grantOrder := kept
            committed := (kept.map (fun h => (s.record h).currentOr0)).sum })
      ∧ (∀ h n, (s.record h).covers n = true →
        t.channel n =
          if (s.record h).isCommitting && (t.record h).isFree then
            { s.channel n with
                state := .off, enableHigh := false, retryTimer := none, tripRaised := false }
          else s.channel n)
      ∧ (∀ n, (∀ h, (s.record h).covers n = false) → t.channel n = s.channel n)
      ∧ (∀ q, t.port q = { s.port q with
          noticeOrder := [], attnLow := false, front := none, capture := .idle
          patience := (s.portRow q).patience, lastSeq := none
          shifter := if q = p then .idle else (s.port q).shifter
          dataOut := if q = p then none else (s.port q).dataOut
          register :=
            if q = p then
              ⟨Command.restart.code, f.seq, .taken, ⟨.done, 0,
                (List.finRange 48).countP (fun h => !(t.record h).isFree),
                (List.finRange 48).countP (fun h =>
                  !(s.record h).isFree && (t.record h).isFree)⟩⟩
            else ⟨0, false, .taken, ⟨.fresh, 0, 0, 0⟩⟩ })
      ∧ t.changeCount = s.changeCount + 1 ∧ t.mode = .service ∧ t.shadow = s.shadow
      ∧ t.array = s.array ∧ t.staging = s.staging ∧ t.write = s.write ∧ t.load = s.load

/-- IDENTIFY answers in every mode from either role and writes nothing (R152); SET PATIENCE writes
the asking port's patience, or refuses 0 (R59). -/
def Obligations.IdentifyAndSetPatience : Prop :=
  ∀ (s : State) (p : Port) (f : Fields),
    (s.admits p f = true →
      exec (.identify p f) s = .next (s.replied p Command.identify.code f
        ⟨.done, 0, 6680, 512 + s.mode.number * 128 + s.shadow.badRows⟩))
    ∧ (s.takes p .setPatience f = true →
      (f.valueA = 0 → exec (.setPatience p f) s =
        .next (s.replied p Command.setPatience.code f ⟨.badValue, 0, 0, 0⟩))
      ∧ (f.valueA ≠ 0 → exec (.setPatience p f) s =
        .next ((s.onPort p (fun ps => { ps with patience := f.valueA.toNat })).replied p
          Command.setPatience.code f ⟨.done, 0, f.valueA.toNat, 0⟩)))

/-- Cold reset puts every block in its cold reset state from whatever state it finds (R145, and R23,
R46, R101, R115, R125, R127, R132, R140, R166); its end begins the load (R146). The model's own in it:
what the array holds after a write was cut off is one of three (log 7); data out in an abandoned frame
is at a free level (log 9); the two causes are two levels, and one end ends both (log 23); with no cold
reset in force COLD_RESET_END changes nothing (log 17). -/
def Obligations.ColdResetSetsEveryBlock : Prop :=
  ∀ s : State,
    (∀ cause, ∃ t, exec (.coldResetBegin cause) s = .next t
      ∧ t.mode = .loading ∧ t.changeCount = 0 ∧ t.write = none ∧ t.load = none
      ∧ t.records = State.reset.records ∧ t.shadow = State.reset.shadow
      ∧ t.staging = State.reset.staging
      ∧ (∀ r, t.rail r = { State.reset.rail r with
          present := (s.rail r).present, full := (s.rail r).full })
      ∧ (∀ n, t.channel n = { State.reset.channel n with faultLow := (s.channel n).faultLow })
      ∧ (∀ p, ∃ level, t.port p = { State.reset.port p with
          shifter := (match (s.port p).shifter with
            | .shifting _ => .abandoned
            | other => other)
          dataOut := (match (s.port p).shifter with
            | .shifting _ => some level
            | _ => (s.port p).dataOut) })
      ∧ t.supplyLow = (s.supplyLow || cause = .supply)
      ∧ t.resetLow = (s.resetLow || cause = .resetPin)
      ∧ (s.write = none → t.array = s.array)
      ∧ (∀ q w, s.write = some ⟨q, w⟩ → t.array = s.array ∨ t.array = s.array.write w
          ∨ t.array = s.array.spoil w.id))
    ∧ (s.inColdReset = true → exec .coldResetEnd s =
        .next { s with supplyLow := false, resetLow := false, load := some 0 })
    ∧ (s.inColdReset = false → exec .coldResetEnd s = .next s)
end

