-- ==== Sys2Proof/Laws/State.lean ====
section
/-! SUPPORT. What reading a part of the state gives after another part of it has been written: one
lemma for each accessor and each of the five writes `setRecord`, `onRail`, `onChannel`, `onPort` and
`countChange`. -/

namespace Sys2Proof.Machine

/-- Reading a vector after one entry was set. -/
theorem vector_get_set {α : Type} {n : Nat} (v : Vector α n) (i j : Fin n) (x : α) :
    (v.set i.val x i.isLt).get j = if i = j then x else v.get j := by
  simp only [Vector.get_eq_getElem, Vector.getElem_set, Fin.ext_iff]

/-- Reading a vector given by a function. -/
@[simp] theorem vector_get_ofFn {α : Type} {n : Nat} (f : Fin n → α) (i : Fin n) :
    (Vector.ofFn f).get i = f i := by
  simp [Vector.get_eq_getElem]

/-! ## After `setRecord` -/

@[simp] theorem State.setRecord_pending (s : State) (h : Handle) (x : Record) :
    (s.setRecord h x).pending = s.pending := rfl

@[simp] theorem State.setRecord_supplyLow (s : State) (h : Handle) (x : Record) :
    (s.setRecord h x).supplyLow = s.supplyLow := rfl

@[simp] theorem State.setRecord_resetLow (s : State) (h : Handle) (x : Record) :
    (s.setRecord h x).resetLow = s.resetLow := rfl

@[simp] theorem State.setRecord_mode (s : State) (h : Handle) (x : Record) :
    (s.setRecord h x).mode = s.mode := rfl

@[simp] theorem State.setRecord_changeCount (s : State) (h : Handle) (x : Record) :
    (s.setRecord h x).changeCount = s.changeCount := rfl

@[simp] theorem State.setRecord_shadow (s : State) (h : Handle) (x : Record) :
    (s.setRecord h x).shadow = s.shadow := rfl

@[simp] theorem State.setRecord_array (s : State) (h : Handle) (x : Record) :
    (s.setRecord h x).array = s.array := rfl

@[simp] theorem State.setRecord_staging (s : State) (h : Handle) (x : Record) :
    (s.setRecord h x).staging = s.staging := rfl

@[simp] theorem State.setRecord_write (s : State) (h : Handle) (x : Record) :
    (s.setRecord h x).write = s.write := rfl

@[simp] theorem State.setRecord_load (s : State) (h : Handle) (x : Record) :
    (s.setRecord h x).load = s.load := rfl

@[simp] theorem State.setRecord_freeDraws (s : State) (h : Handle) (x : Record) :
    (s.setRecord h x).freeDraws = s.freeDraws := rfl

@[simp] theorem State.setRecord_inColdReset (s : State) (h : Handle) (x : Record) :
    (s.setRecord h x).inColdReset = s.inColdReset := rfl

@[simp] theorem State.setRecord_rails (s : State) (h : Handle) (x : Record) :
    (s.setRecord h x).rails = s.rails := rfl

@[simp] theorem State.setRecord_channels (s : State) (h : Handle) (x : Record) :
    (s.setRecord h x).channels = s.channels := rfl

@[simp] theorem State.setRecord_rail (s : State) (h : Handle) (x : Record) (k : Rail) :
    (s.setRecord h x).rail k = s.rail k := rfl

@[simp] theorem State.setRecord_channel (s : State) (h : Handle) (x : Record) (k : Output) :
    (s.setRecord h x).channel k = s.channel k := rfl

@[simp] theorem State.setRecord_port (s : State) (h : Handle) (x : Record) (k : Port) :
    (s.setRecord h x).port k = s.port k := rfl

@[simp] theorem State.setRecord_outputRow (s : State) (h : Handle) (x : Record) (k : Output) :
    (s.setRecord h x).outputRow k = s.outputRow k := rfl

@[simp] theorem State.setRecord_portRow (s : State) (h : Handle) (x : Record) (k : Port) :
    (s.setRecord h x).portRow k = s.portRow k := rfl

/-- The record written, and every other record as it was. -/
theorem State.setRecord_record (s : State) (h : Handle) (x : Record) (k : Handle) :
    (s.setRecord h x).record k = if h = k then x else s.record k :=
  vector_get_set _ _ _ _

@[simp] theorem State.setRecord_record_same (s : State) (h : Handle) (x : Record) :
    (s.setRecord h x).record h = x := by simp [State.setRecord_record]

theorem State.setRecord_record_ne (s : State) {h k : Handle} (x : Record) (hk : k ≠ h) :
    (s.setRecord h x).record k = s.record k := by simp [State.setRecord_record, Ne.symm hk]

/-! ## After `onRail` -/

@[simp] theorem State.onRail_pending (s : State) (r : Rail) (f : Account → Account) :
    (s.onRail r f).pending = s.pending := rfl

@[simp] theorem State.onRail_supplyLow (s : State) (r : Rail) (f : Account → Account) :
    (s.onRail r f).supplyLow = s.supplyLow := rfl

@[simp] theorem State.onRail_resetLow (s : State) (r : Rail) (f : Account → Account) :
    (s.onRail r f).resetLow = s.resetLow := rfl

@[simp] theorem State.onRail_mode (s : State) (r : Rail) (f : Account → Account) :
    (s.onRail r f).mode = s.mode := rfl

@[simp] theorem State.onRail_changeCount (s : State) (r : Rail) (f : Account → Account) :
    (s.onRail r f).changeCount = s.changeCount := rfl

@[simp] theorem State.onRail_shadow (s : State) (r : Rail) (f : Account → Account) :
    (s.onRail r f).shadow = s.shadow := rfl

@[simp] theorem State.onRail_array (s : State) (r : Rail) (f : Account → Account) :
    (s.onRail r f).array = s.array := rfl

@[simp] theorem State.onRail_staging (s : State) (r : Rail) (f : Account → Account) :
    (s.onRail r f).staging = s.staging := rfl

@[simp] theorem State.onRail_write (s : State) (r : Rail) (f : Account → Account) :
    (s.onRail r f).write = s.write := rfl

@[simp] theorem State.onRail_load (s : State) (r : Rail) (f : Account → Account) :
    (s.onRail r f).load = s.load := rfl

@[simp] theorem State.onRail_freeDraws (s : State) (r : Rail) (f : Account → Account) :
    (s.onRail r f).freeDraws = s.freeDraws := rfl

@[simp] theorem State.onRail_inColdReset (s : State) (r : Rail) (f : Account → Account) :
    (s.onRail r f).inColdReset = s.inColdReset := rfl

@[simp] theorem State.onRail_records (s : State) (r : Rail) (f : Account → Account) :
    (s.onRail r f).records = s.records := rfl

@[simp] theorem State.onRail_channels (s : State) (r : Rail) (f : Account → Account) :
    (s.onRail r f).channels = s.channels := rfl

@[simp] theorem State.onRail_record (s : State) (r : Rail) (f : Account → Account) (k : Handle) :
    (s.onRail r f).record k = s.record k := rfl

@[simp] theorem State.onRail_channel (s : State) (r : Rail) (f : Account → Account) (k : Output) :
    (s.onRail r f).channel k = s.channel k := rfl

@[simp] theorem State.onRail_port (s : State) (r : Rail) (f : Account → Account) (k : Port) :
    (s.onRail r f).port k = s.port k := rfl

@[simp] theorem State.onRail_outputRow (s : State) (r : Rail) (f : Account → Account) (k : Output) :
    (s.onRail r f).outputRow k = s.outputRow k := rfl

@[simp] theorem State.onRail_portRow (s : State) (r : Rail) (f : Account → Account) (k : Port) :
    (s.onRail r f).portRow k = s.portRow k := rfl

/-- The account changed, and every other account as it was. -/
theorem State.onRail_rail (s : State) (r : Rail) (f : Account → Account) (k : Rail) :
    (s.onRail r f).rail k = if r = k then f (s.rail r) else s.rail k :=
  vector_get_set _ _ _ _

@[simp] theorem State.onRail_rail_same (s : State) (r : Rail) (f : Account → Account) :
    (s.onRail r f).rail r = f (s.rail r) := by simp [State.onRail_rail]

theorem State.onRail_rail_ne (s : State) {r k : Rail} (f : Account → Account) (hk : k ≠ r) :
    (s.onRail r f).rail k = s.rail k := by simp [State.onRail_rail, Ne.symm hk]

/-! ## After `onChannel` -/

@[simp] theorem State.onChannel_pending (s : State) (n : Output) (f : Channel → Channel) :
    (s.onChannel n f).pending = s.pending := rfl

@[simp] theorem State.onChannel_supplyLow (s : State) (n : Output) (f : Channel → Channel) :
    (s.onChannel n f).supplyLow = s.supplyLow := rfl

@[simp] theorem State.onChannel_resetLow (s : State) (n : Output) (f : Channel → Channel) :
    (s.onChannel n f).resetLow = s.resetLow := rfl

@[simp] theorem State.onChannel_mode (s : State) (n : Output) (f : Channel → Channel) :
    (s.onChannel n f).mode = s.mode := rfl

@[simp] theorem State.onChannel_changeCount (s : State) (n : Output) (f : Channel → Channel) :
    (s.onChannel n f).changeCount = s.changeCount := rfl

@[simp] theorem State.onChannel_shadow (s : State) (n : Output) (f : Channel → Channel) :
    (s.onChannel n f).shadow = s.shadow := rfl

@[simp] theorem State.onChannel_array (s : State) (n : Output) (f : Channel → Channel) :
    (s.onChannel n f).array = s.array := rfl

@[simp] theorem State.onChannel_staging (s : State) (n : Output) (f : Channel → Channel) :
    (s.onChannel n f).staging = s.staging := rfl

@[simp] theorem State.onChannel_write (s : State) (n : Output) (f : Channel → Channel) :
    (s.onChannel n f).write = s.write := rfl

@[simp] theorem State.onChannel_load (s : State) (n : Output) (f : Channel → Channel) :
    (s.onChannel n f).load = s.load := rfl

@[simp] theorem State.onChannel_freeDraws (s : State) (n : Output) (f : Channel → Channel) :
    (s.onChannel n f).freeDraws = s.freeDraws := rfl

@[simp] theorem State.onChannel_inColdReset (s : State) (n : Output) (f : Channel → Channel) :
    (s.onChannel n f).inColdReset = s.inColdReset := rfl

@[simp] theorem State.onChannel_records (s : State) (n : Output) (f : Channel → Channel) :
    (s.onChannel n f).records = s.records := rfl

@[simp] theorem State.onChannel_rails (s : State) (n : Output) (f : Channel → Channel) :
    (s.onChannel n f).rails = s.rails := rfl

@[simp] theorem State.onChannel_record (s : State) (n : Output) (f : Channel → Channel) (k : Handle) :
    (s.onChannel n f).record k = s.record k := rfl

@[simp] theorem State.onChannel_rail (s : State) (n : Output) (f : Channel → Channel) (k : Rail) :
    (s.onChannel n f).rail k = s.rail k := rfl

@[simp] theorem State.onChannel_port (s : State) (n : Output) (f : Channel → Channel) (k : Port) :
    (s.onChannel n f).port k = s.port k := rfl

@[simp] theorem State.onChannel_outputRow (s : State) (n : Output) (f : Channel → Channel) (k : Output) :
    (s.onChannel n f).outputRow k = s.outputRow k := rfl

@[simp] theorem State.onChannel_portRow (s : State) (n : Output) (f : Channel → Channel) (k : Port) :
    (s.onChannel n f).portRow k = s.portRow k := rfl

/-- The channel changed, and every other channel as it was. -/
theorem State.onChannel_channel (s : State) (n : Output) (f : Channel → Channel) (k : Output) :
    (s.onChannel n f).channel k = if n = k then f (s.channel n) else s.channel k :=
  vector_get_set _ _ _ _

@[simp] theorem State.onChannel_channel_same (s : State) (n : Output) (f : Channel → Channel) :
    (s.onChannel n f).channel n = f (s.channel n) := by simp [State.onChannel_channel]

theorem State.onChannel_channel_ne (s : State) {n k : Output} (f : Channel → Channel)
    (hk : k ≠ n) : (s.onChannel n f).channel k = s.channel k := by
  simp [State.onChannel_channel, Ne.symm hk]

/-! ## After `onPort` -/

@[simp] theorem State.onPort_pending (s : State) (p : Port) (f : PortState → PortState) :
    (s.onPort p f).pending = s.pending := by cases p <;> rfl

@[simp] theorem State.onPort_supplyLow (s : State) (p : Port) (f : PortState → PortState) :
    (s.onPort p f).supplyLow = s.supplyLow := by cases p <;> rfl

@[simp] theorem State.onPort_resetLow (s : State) (p : Port) (f : PortState → PortState) :
    (s.onPort p f).resetLow = s.resetLow := by cases p <;> rfl

@[simp] theorem State.onPort_mode (s : State) (p : Port) (f : PortState → PortState) :
    (s.onPort p f).mode = s.mode := by cases p <;> rfl

@[simp] theorem State.onPort_changeCount (s : State) (p : Port) (f : PortState → PortState) :
    (s.onPort p f).changeCount = s.changeCount := by cases p <;> rfl

@[simp] theorem State.onPort_shadow (s : State) (p : Port) (f : PortState → PortState) :
    (s.onPort p f).shadow = s.shadow := by cases p <;> rfl

@[simp] theorem State.onPort_array (s : State) (p : Port) (f : PortState → PortState) :
    (s.onPort p f).array = s.array := by cases p <;> rfl

@[simp] theorem State.onPort_staging (s : State) (p : Port) (f : PortState → PortState) :
    (s.onPort p f).staging = s.staging := by cases p <;> rfl

@[simp] theorem State.onPort_write (s : State) (p : Port) (f : PortState → PortState) :
    (s.onPort p f).write = s.write := by cases p <;> rfl

@[simp] theorem State.onPort_load (s : State) (p : Port) (f : PortState → PortState) :
    (s.onPort p f).load = s.load := by cases p <;> rfl

@[simp] theorem State.onPort_freeDraws (s : State) (p : Port) (f : PortState → PortState) :
    (s.onPort p f).freeDraws = s.freeDraws := by cases p <;> rfl

@[simp] theorem State.onPort_inColdReset (s : State) (p : Port) (f : PortState → PortState) :
    (s.onPort p f).inColdReset = s.inColdReset := by cases p <;> rfl

@[simp] theorem State.onPort_records (s : State) (p : Port) (f : PortState → PortState) :
    (s.onPort p f).records = s.records := by cases p <;> rfl

@[simp] theorem State.onPort_rails (s : State) (p : Port) (f : PortState → PortState) :
    (s.onPort p f).rails = s.rails := by cases p <;> rfl

@[simp] theorem State.onPort_channels (s : State) (p : Port) (f : PortState → PortState) :
    (s.onPort p f).channels = s.channels := by cases p <;> rfl

@[simp] theorem State.onPort_record (s : State) (p : Port) (f : PortState → PortState) (k : Handle) :
    (s.onPort p f).record k = s.record k := by cases p <;> rfl

@[simp] theorem State.onPort_rail (s : State) (p : Port) (f : PortState → PortState) (k : Rail) :
    (s.onPort p f).rail k = s.rail k := by cases p <;> rfl

@[simp] theorem State.onPort_channel (s : State) (p : Port) (f : PortState → PortState) (k : Output) :
    (s.onPort p f).channel k = s.channel k := by cases p <;> rfl

@[simp] theorem State.onPort_outputRow (s : State) (p : Port) (f : PortState → PortState) (k : Output) :
    (s.onPort p f).outputRow k = s.outputRow k := by cases p <;> rfl

@[simp] theorem State.onPort_portRow (s : State) (p : Port) (f : PortState → PortState) (k : Port) :
    (s.onPort p f).portRow k = s.portRow k := by cases p <;> rfl

/-- The port changed, and the other port as it was. -/
theorem State.onPort_port (s : State) (p : Port) (f : PortState → PortState) (k : Port) :
    (s.onPort p f).port k = if p = k then f (s.port p) else s.port k := by
  cases p <;> cases k <;> rfl

@[simp] theorem State.onPort_port_same (s : State) (p : Port) (f : PortState → PortState) :
    (s.onPort p f).port p = f (s.port p) := by cases p <;> rfl

@[simp] theorem State.onPort_port_other (s : State) (p : Port) (f : PortState → PortState) :
    (s.onPort p f).port p.other = s.port p.other := by cases p <;> rfl

/-- Two changes of one port are one. -/
theorem State.onPort_onPort (s : State) (p : Port) (f g : PortState → PortState) :
    (s.onPort p f).onPort p g = s.onPort p (fun ps => g (f ps)) := by cases p <;> rfl

/-! ## After `countChange` -/

@[simp] theorem State.countChange_pending (s : State)  :
    (s.countChange).pending = s.pending := rfl

@[simp] theorem State.countChange_supplyLow (s : State)  :
    (s.countChange).supplyLow = s.supplyLow := rfl

@[simp] theorem State.countChange_resetLow (s : State)  :
    (s.countChange).resetLow = s.resetLow := rfl

@[simp] theorem State.countChange_mode (s : State)  :
    (s.countChange).mode = s.mode := rfl

@[simp] theorem State.countChange_shadow (s : State)  :
    (s.countChange).shadow = s.shadow := rfl

@[simp] theorem State.countChange_array (s : State)  :
    (s.countChange).array = s.array := rfl

@[simp] theorem State.countChange_staging (s : State)  :
    (s.countChange).staging = s.staging := rfl

@[simp] theorem State.countChange_write (s : State)  :
    (s.countChange).write = s.write := rfl

@[simp] theorem State.countChange_load (s : State)  :
    (s.countChange).load = s.load := rfl

@[simp] theorem State.countChange_freeDraws (s : State)  :
    (s.countChange).freeDraws = s.freeDraws := rfl

@[simp] theorem State.countChange_inColdReset (s : State)  :
    (s.countChange).inColdReset = s.inColdReset := rfl

@[simp] theorem State.countChange_records (s : State)  :
    (s.countChange).records = s.records := rfl

@[simp] theorem State.countChange_rails (s : State)  :
    (s.countChange).rails = s.rails := rfl

@[simp] theorem State.countChange_channels (s : State)  :
    (s.countChange).channels = s.channels := rfl

@[simp] theorem State.countChange_record (s : State)  (k : Handle) :
    (s.countChange).record k = s.record k := rfl

@[simp] theorem State.countChange_rail (s : State)  (k : Rail) :
    (s.countChange).rail k = s.rail k := rfl

@[simp] theorem State.countChange_channel (s : State)  (k : Output) :
    (s.countChange).channel k = s.channel k := rfl

@[simp] theorem State.countChange_port (s : State)  (k : Port) :
    (s.countChange).port k = s.port k := rfl

@[simp] theorem State.countChange_outputRow (s : State)  (k : Output) :
    (s.countChange).outputRow k = s.outputRow k := rfl

@[simp] theorem State.countChange_portRow (s : State)  (k : Port) :
    (s.countChange).portRow k = s.portRow k := rfl

@[simp] theorem State.countChange_changeCount (s : State) :
    s.countChange.changeCount = s.changeCount + 1 := rfl

/-! ## A draw of a free value -/

@[simp] theorem State.draw_fst (s : State) : s.draw.1 = s.freeDraws := rfl

@[simp] theorem State.draw_snd (s : State) :
    s.draw.2 = { s with freeDraws := s.freeDraws + 1 } := rfl

end Sys2Proof.Machine
end

