-- ==== Sys2Proof/Laws/Frames.lean ====
section
/-! SUPPORT. What the procedures of the Lease Table leave alone: one relation, kept by each of them.
-/

namespace Sys2Proof.Machine

/-- `t` differs from `s` only in what the procedures of the Lease Table write: the records, the
channels, the committed current, waiting list and grant order of the accounts, and the notice orders
with their ATTN lines. -/
structure State.TableOnly (s t : State) : Prop where
  rest : t = { s with
    records := t.records, rails := t.rails, channels := t.channels
    portA := t.portA, portB := t.portB }
  rails : ∀ r, t.rail r = { s.rail r with
    committed := (t.rail r).committed, waiting := (t.rail r).waiting
    grantOrder := (t.rail r).grantOrder }
  ports : ∀ p, t.port p = { s.port p with
    noticeOrder := (t.port p).noticeOrder, attnLow := (t.port p).attnLow }

theorem State.TableOnly.refl (s : State) : s.TableOnly s := ⟨rfl, fun _ => rfl, fun _ => rfl⟩

theorem State.TableOnly.trans {s t u : State} (h : s.TableOnly t) (k : t.TableOnly u) :
    s.TableOnly u where
  rest := by rw [k.rest, h.rest]
  rails r := by rw [k.rails r, h.rails r]
  ports p := by rw [k.ports p, h.ports p]

/-- What is the same in both states. -/
theorem State.TableOnly.mode {s t : State} (h : s.TableOnly t) : t.mode = s.mode := by rw [h.rest]
theorem State.TableOnly.shadow {s t : State} (h : s.TableOnly t) : t.shadow = s.shadow := by
  rw [h.rest]
theorem State.TableOnly.changeCount {s t : State} (h : s.TableOnly t) :
    t.changeCount = s.changeCount := by rw [h.rest]
theorem State.TableOnly.pending {s t : State} (h : s.TableOnly t) : t.pending = s.pending := by
  rw [h.rest]
theorem State.TableOnly.limit {s t : State} (h : s.TableOnly t) (r : Rail) :
    (t.rail r).limit = (s.rail r).limit := by rw [h.rails r]; rfl

/-! ## The writes -/

theorem State.setRecord_tableOnly (s : State) (h : Handle) (x : Record) :
    s.TableOnly (s.setRecord h x) := ⟨rfl, fun _ => rfl, fun _ => rfl⟩

theorem State.onChannel_tableOnly (s : State) (n : Output) (f : Channel → Channel) :
    s.TableOnly (s.onChannel n f) := ⟨rfl, fun _ => rfl, fun _ => rfl⟩

theorem State.onRail_tableOnly (s : State) (r : Rail) (f : Account → Account)
    (hf : ∀ a, f a = { a with
      committed := (f a).committed, waiting := (f a).waiting, grantOrder := (f a).grantOrder }) :
    s.TableOnly (s.onRail r f) where
  rest := rfl
  rails k := by
    rw [State.onRail_rail]
    split
    · subst_vars; exact hf _
    · rfl
  ports _ := rfl

theorem State.withOrder_tableOnly (s : State) (p : Port) (f : PortState → List Handle) :
    s.TableOnly (s.onPort p (fun ps => ps.withOrder (f ps))) where
  rest := by cases p <;> rfl
  rails _ := by cases p <;> rfl
  ports q := by cases p <;> cases q <;> rfl

/-! ## The procedures -/

theorem State.joinGrants_tableOnly (s : State) (h : Handle) (b : Booking) :
    s.TableOnly (s.joinGrants h b) := s.onRail_tableOnly _ _ (fun _ => rfl)

theorem State.leaveGrants_tableOnly (s : State) (h : Handle) (b : Booking) :
    s.TableOnly (s.leaveGrants h b) := s.onRail_tableOnly _ _ (fun _ => rfl)

theorem State.leaveList_tableOnly (s : State) (h : Handle) (b : Booking) :
    s.TableOnly (s.leaveList h b) := s.onRail_tableOnly _ _ (fun _ => rfl)

theorem State.dropNotice_tableOnly (s : State) (h : Handle) (n : Option Notice) :
    s.TableOnly (s.dropNotice h n) := by
  cases n with
  | none => exact .refl s
  | some n => exact s.withOrder_tableOnly n.owedTo.port (fun ps => ps.noticeOrder.erase h)

theorem State.postNotice_tableOnly (s : State) (h : Handle) (old : Option Notice) (new : Notice) :
    s.TableOnly (s.postNotice h old new) :=
  (s.dropNotice_tableOnly h old).trans
    (State.withOrder_tableOnly _ new.owedTo.port (fun ps => ps.noticeOrder ++ [h]))

theorem State.withdraw_tableOnly (s : State) (h : Handle) : s.TableOnly (s.withdraw h) := by
  unfold State.withdraw
  split
  · exact .refl s
  · split
    · exact (s.leaveGrants_tableOnly h _).trans (State.onChannel_tableOnly _ _ _)
    · split
      · exact s.leaveList_tableOnly h _
      · exact .refl s

theorem State.freeRecord_tableOnly (s : State) (h : Handle) : s.TableOnly (s.freeRecord h) :=
  ((s.withdraw_tableOnly h).trans (State.dropNotice_tableOnly _ h _)).trans
    (State.setRecord_tableOnly _ h _)

theorem State.endRecord_tableOnly (s : State) (h : Handle) (reason : Reason) :
    s.TableOnly (s.endRecord h reason) := by
  unfold State.endRecord
  split
  · exact ((s.withdraw_tableOnly h).trans (State.postNotice_tableOnly _ h _ _)).trans
      (State.setRecord_tableOnly _ h _)
  · exact s.freeRecord_tableOnly h

theorem State.grantWaiter_tableOnly (s : State) (h : Handle) (b : Booking) (c : Client)
    (term : Nat) : s.TableOnly (s.grantWaiter h b c term) :=
  ((((s.leaveList_tableOnly h b).trans (State.joinGrants_tableOnly _ h b)).trans
    (State.onChannel_tableOnly _ _ _)).trans (State.postNotice_tableOnly _ h _ _)).trans
    (State.setRecord_tableOnly _ h _)

theorem State.scanFrom_tableOnly (r : Rail) (l : List Handle) (s : State) :
    s.TableOnly (s.scanFrom r l) := by
  induction l generalizing s with
  | nil => exact .refl s
  | cons h hs ih =>
    unfold State.scanFrom
    split
    · split
      · exact (s.grantWaiter_tableOnly h _ _ _).trans (ih _)
      · exact .refl s
    · exact .refl s

theorem State.scan_tableOnly (s : State) (r : Rail) : s.TableOnly (s.scan r) := by
  unfold State.scan
  split
  · exact State.scanFrom_tableOnly r _ s
  · exact .refl s

theorem State.revokeFrom_tableOnly (r : Rail) (l : List Handle) (s : State) :
    s.TableOnly (s.revokeFrom r l) := by
  induction l generalizing s with
  | nil => exact .refl s
  | cons h hs ih =>
    unfold State.revokeFrom
    split
    · exact (s.endRecord_tableOnly h _).trans (ih _)
    · exact .refl s

theorem State.revoke_tableOnly (s : State) (r : Rail) : s.TableOnly (s.revoke r) :=
  State.revokeFrom_tableOnly r _ s

/-- A change of a limit writes nothing else but the change count. -/
theorem State.limitChange_tableOnly (s : State) (r : Rail) (old : Nat) :
    ∃ t, s.TableOnly t ∧ ((s.limitChange r old).1 = t ∨ (s.limitChange r old).1 = t.countChange) := by
  have counted (t u : State) : t.countGrants u r = t ∨ t.countGrants u r = t.countChange := by
    unfold State.countGrants; split <;> simp
  have revoked := (s.revoke_tableOnly r).trans ((s.revoke r).scan_tableOnly r)
  by_cases hm : s.mode = .service
  · by_cases hl : (s.rail r).limit < (s.rail r).committed
    · refine ⟨_, revoked, ?_⟩
      simp only [State.limitChange, hm, hl, if_true]
      split
      · exact counted _ _
      · exact .inr rfl
    · by_cases ho : old < (s.rail r).limit
      · exact ⟨_, s.scan_tableOnly r, by
          simp only [State.limitChange, hm, hl, ho, if_true, if_false]; exact counted _ _⟩
      · exact ⟨s, .refl s, .inl (by simp [State.limitChange, hm, hl, ho])⟩
  · exact ⟨s, .refl s, .inl (by simp [State.limitChange, hm])⟩

end Sys2Proof.Machine
end

