-- ==== Sys2Proof/Laws/Search.lean ====
section
/-! SUPPORT. What the searches of the Lease Table find. -/

namespace Sys2Proof.Machine

/-- The first handle of the table with a property is the lowest one. -/
theorem find_handle_eq_some {q : Handle → Bool} {h : Handle} :
    (List.finRange 48).find? q = some h ↔ q h = true ∧ ∀ k, k < h → q k = false := by
  rw [List.find?_eq_some_iff_getElem]
  constructor
  · rintro ⟨hq, i, hi, hget, hlow⟩
    simp at hget hi
    refine ⟨hq, fun k hk => ?_⟩
    have := hlow k.val (by rw [← hget] at hk; exact hk)
    simpa using this
  · rintro ⟨hq, hlow⟩
    refine ⟨hq, h.val, by simp, by simp, fun j hj => ?_⟩
    have hj' : j < 48 := by omega
    simpa using hlow ⟨j, hj'⟩ (by exact hj)

/-- No handle of the table has a property that none is found to have. -/
theorem find_handle_eq_none {q : Handle → Bool} :
    (List.finRange 48).find? q = none ↔ ∀ h, q h = false := by
  simp [List.find?_eq_none]

/-- The lowest FREE record (R4). -/
theorem State.lowestFree_eq_some {s : State} {h : Handle} :
    s.lowestFree = some h ↔
      (s.record h).isFree = true ∧ ∀ k, k < h → (s.record k).isFree = false :=
  find_handle_eq_some

/-- No record is FREE. -/
theorem State.lowestFree_eq_none {s : State} :
    s.lowestFree = none ↔ ∀ h, (s.record h).isFree = false :=
  find_handle_eq_none

/-- The record that covers an output covers it. -/
theorem State.covering_covers {s : State} {o : Output} {h : Handle} (hc : s.covering o = some h) :
    (s.record h).covers o = true :=
  (find_handle_eq_some.1 hc).1

/-- No record covers the output. -/
theorem State.covering_eq_none {s : State} {o : Output} :
    s.covering o = none ↔ ∀ h, (s.record h).covers o = false :=
  find_handle_eq_none

/-- A FREE record is `.free`. -/
theorem Record.isFree_iff {r : Record} : r.isFree = true ↔ r = .free := by
  cases r <;> simp [Record.isFree]

/-- A record that covers an output names it in its booking. -/
theorem Record.covers_booking {r : Record} {o : Output} (h : r.covers o = true) :
    ∃ b, r.booking? = some b ∧ b.output = o := by
  simp only [Record.covers, Bool.and_eq_true, Option.any_eq_true, decide_eq_true_eq] at h
  exact h.2

end Sys2Proof.Machine
end

