-- ==== Sys2Proof/Laws/Pins.lean ====
section
/-! SUPPORT. Raising a port's chip select changes the pins of the port alone, so it commutes with
what every command does at its block; and what a frame that is taken comes to. -/

namespace Sys2Proof.Machine

/-! ## What raising chip select keeps -/

@[simp] theorem State.raiseSelect_record (s : State) (p : Port) (h : Handle) :
    (s.raiseSelect p).record h = s.record h := by cases p <;> rfl

@[simp] theorem State.raiseSelect_rail (s : State) (p : Port) (r : Rail) :
    (s.raiseSelect p).rail r = s.rail r := by cases p <;> rfl

@[simp] theorem State.raiseSelect_channel (s : State) (p : Port) (n : Output) :
    (s.raiseSelect p).channel n = s.channel n := by cases p <;> rfl

@[simp] theorem State.raiseSelect_mode (s : State) (p : Port) :
    (s.raiseSelect p).mode = s.mode := by cases p <;> rfl

@[simp] theorem State.raiseSelect_shadow (s : State) (p : Port) :
    (s.raiseSelect p).shadow = s.shadow := by cases p <;> rfl

@[simp] theorem State.raiseSelect_array (s : State) (p : Port) :
    (s.raiseSelect p).array = s.array := by cases p <;> rfl

@[simp] theorem State.raiseSelect_staging (s : State) (p : Port) :
    (s.raiseSelect p).staging = s.staging := by cases p <;> rfl

@[simp] theorem State.raiseSelect_write (s : State) (p : Port) :
    (s.raiseSelect p).write = s.write := by cases p <;> rfl

@[simp] theorem State.raiseSelect_changeCount (s : State) (p : Port) :
    (s.raiseSelect p).changeCount = s.changeCount := by cases p <;> rfl

@[simp] theorem State.raiseSelect_outputRow (s : State) (p : Port) (o : Output) :
    (s.raiseSelect p).outputRow o = s.outputRow o := by cases p <;> rfl

@[simp] theorem State.raiseSelect_portRow (s : State) (p q : Port) :
    (s.raiseSelect p).portRow q = s.portRow q := by cases p <;> rfl

@[simp] theorem State.raiseSelect_staged (s : State) (p : Port) (k : Fin 13) :
    (s.raiseSelect p).staged k = s.staged k := by cases p <;> rfl

@[simp] theorem State.raiseSelect_covering (s : State) (p : Port) (o : Output) :
    (s.raiseSelect p).covering o = s.covering o := by cases p <;> rfl

@[simp] theorem State.raiseSelect_lowestFree (s : State) (p : Port) :
    (s.raiseSelect p).lowestFree = s.lowestFree := by cases p <;> rfl

@[simp] theorem State.raiseSelect_counted (s : State) (p q : Port) :
    (s.raiseSelect p).counted q = s.counted q := by cases p <;> rfl

@[simp] theorem State.raiseSelect_notFree (s : State) (p : Port) :
    (s.raiseSelect p).notFree = s.notFree := by cases p <;> rfl

@[simp] theorem State.raiseSelect_endedCount (s : State) (p : Port) :
    (s.raiseSelect p).endedCount = s.endedCount := by cases p <;> rfl

@[simp] theorem State.raiseSelect_deviceHeld (s : State) (p : Port) :
    (s.raiseSelect p).deviceHeld = s.deviceHeld := by cases p <;> rfl

@[simp] theorem State.raiseSelect_barredOutputs (s : State) (p : Port) :
    (s.raiseSelect p).barredOutputs = s.barredOutputs := by cases p <;> rfl

@[simp] theorem State.raiseSelect_blockers (s : State) (p : Port) (r : Rail) (c : LeaseClass) :
    (s.raiseSelect p).blockers r c = s.blockers r c := by cases p <;> rfl

@[simp] theorem State.raiseSelect_fits (s : State) (p : Port) (r : Rail) (c : LeaseClass) (d : Nat) :
    (s.raiseSelect p).fits r c d = s.fits r c d := by cases p <;> rfl

@[simp] theorem State.raiseSelect_noRoom (s : State) (p : Port) (r : Rail) (c : LeaseClass)
    (k : Nat) : (s.raiseSelect p).noRoom r c k = s.noRoom r c k := by cases p <;> rfl

@[simp] theorem State.raiseSelect_recordRank (s : State) (p : Port) (h : Handle) :
    (s.raiseSelect p).recordRank h = s.recordRank h := by cases p <;> rfl

@[simp] theorem State.raiseSelect_resolve (s : State) (p : Port) (c : Client) (sel : BitVec 7) :
    (s.raiseSelect p).resolve c sel = s.resolve c sel := by cases p <;> rfl

@[simp] theorem State.raiseSelect_asked (s : State) (p : Port) (f : Fields) (o : Output) :
    (s.raiseSelect p).asked f o = s.asked f o := by cases p <;> rfl

@[simp] theorem State.raiseSelect_stagedFault (s : State) (p : Port) (i : RowId) :
    (s.raiseSelect p).stagedFault i = s.stagedFault i := by cases p <;> rfl

@[simp] theorem State.raiseSelect_stagedRow (s : State) (p : Port) (i : RowId) :
    (s.raiseSelect p).stagedRow i = s.stagedRow i := by cases p <;> rfl

@[simp] theorem State.raiseSelect_leaseRefused (s : State) (p : Port) (i : RowId) :
    (s.raiseSelect p).leaseRefused i = s.leaseRefused i := by cases p <;> rfl

@[simp] theorem State.raiseSelect_noticeOrder (s : State) (p q : Port) :
    ((s.raiseSelect p).port q).noticeOrder = (s.port q).noticeOrder := by
  cases p <;> cases q <;> rfl

@[simp] theorem State.raiseSelect_capture (s : State) (p q : Port) :
    ((s.raiseSelect p).port q).capture = (s.port q).capture := by cases p <;> cases q <;> rfl

@[simp] theorem State.raiseSelect_front (s : State) (p q : Port) :
    ((s.raiseSelect p).port q).front = (s.port q).front := by cases p <;> cases q <;> rfl

@[simp] theorem State.raiseSelect_patience (s : State) (p q : Port) :
    ((s.raiseSelect p).port q).patience = (s.port q).patience := by cases p <;> cases q <;> rfl

/-! ## What raising chip select commutes with -/

theorem State.raiseSelect_setRecord (s : State) (p : Port) (h : Handle) (r : Record) :
    (s.raiseSelect p).setRecord h r = (s.setRecord h r).raiseSelect p := by cases p <;> rfl

theorem State.raiseSelect_onRail (s : State) (p : Port) (r : Rail) (f : Account → Account) :
    (s.raiseSelect p).onRail r f = (s.onRail r f).raiseSelect p := by cases p <;> rfl

theorem State.raiseSelect_onChannel (s : State) (p : Port) (n : Output) (f : Channel → Channel) :
    (s.raiseSelect p).onChannel n f = (s.onChannel n f).raiseSelect p := by cases p <;> rfl

theorem State.raiseSelect_countChange (s : State) (p : Port) :
    (s.raiseSelect p).countChange = s.countChange.raiseSelect p := by cases p <;> rfl

theorem State.raiseSelect_dropNotice (s : State) (p : Port) (h : Handle) (n : Option Notice) :
    (s.raiseSelect p).dropNotice h n = (s.dropNotice h n).raiseSelect p := by
  rcases n with - | ⟨r, q, t⟩
  · rfl
  · cases p <;> cases q <;> rfl

theorem State.raiseSelect_postNotice (s : State) (p : Port) (h : Handle) (n : Option Notice)
    (m : Notice) : (s.raiseSelect p).postNotice h n m = (s.postNotice h n m).raiseSelect p := by
  obtain ⟨r, q, t⟩ := m
  rw [State.postNotice, State.raiseSelect_dropNotice, State.postNotice]
  cases p <;> cases q <;> rfl

theorem State.raiseSelect_placeWaiter (s : State) (p : Port) (h : Handle) (c : LeaseClass)
    (l : List Handle) : (s.raiseSelect p).placeWaiter h c l = s.placeWaiter h c l := by
  induction l with
  | nil => rfl
  | cons x xs ih => simp [State.placeWaiter, ih]

theorem State.raiseSelect_enterList (s : State) (p : Port) (h : Handle) (b : Booking) :
    (s.raiseSelect p).enterList h b = (s.enterList h b).raiseSelect p := by
  simp only [State.enterList, State.raiseSelect_placeWaiter, State.raiseSelect_onRail]

theorem State.raiseSelect_withdraw (s : State) (p : Port) (h : Handle) :
    (s.raiseSelect p).withdraw h = (s.withdraw h).raiseSelect p := by
  simp only [State.withdraw, State.raiseSelect_record, State.leaveGrants, State.leaveList,
    State.raiseSelect_onRail, State.raiseSelect_onChannel]
  split
  · rfl
  · split
    · rfl
    · split <;> rfl

theorem State.raiseSelect_freeRecord (s : State) (p : Port) (h : Handle) :
    (s.raiseSelect p).freeRecord h = (s.freeRecord h).raiseSelect p := by
  simp only [State.freeRecord, State.raiseSelect_withdraw, State.raiseSelect_record,
    State.raiseSelect_dropNotice, State.raiseSelect_setRecord]

theorem State.raiseSelect_endRecord (s : State) (p : Port) (h : Handle) (r : Reason) :
    (s.raiseSelect p).endRecord h r = (s.endRecord h r).raiseSelect p := by
  simp only [State.endRecord, State.raiseSelect_withdraw, State.raiseSelect_record,
    State.raiseSelect_postNotice, State.raiseSelect_setRecord, State.raiseSelect_freeRecord]
  split <;> rfl

theorem State.raiseSelect_grantWaiter (s : State) (p : Port) (h : Handle) (b : Booking)
    (c : Client) (t : Nat) :
    (s.raiseSelect p).grantWaiter h b c t = (s.grantWaiter h b c t).raiseSelect p := by
  simp only [State.grantWaiter, State.leaveList, State.joinGrants, State.raiseSelect_onRail,
    State.raiseSelect_onChannel, State.raiseSelect_postNotice, State.raiseSelect_setRecord,
    State.raiseSelect_outputRow]

theorem State.raiseSelect_scanFrom (p : Port) (r : Rail) (l : List Handle) (s : State) :
    (s.raiseSelect p).scanFrom r l = (s.scanFrom r l).raiseSelect p := by
  induction l generalizing s with
  | nil => rfl
  | cons h hs ih =>
    simp only [State.scanFrom, State.raiseSelect_record, State.raiseSelect_rail,
      State.raiseSelect_grantWaiter]
    split
    · split
      · exact ih _
      · rfl
    · rfl

theorem State.raiseSelect_scan (s : State) (p : Port) (r : Rail) :
    (s.raiseSelect p).scan r = (s.scan r).raiseSelect p := by
  simp only [State.scan, State.raiseSelect_mode, State.raiseSelect_rail,
    State.raiseSelect_scanFrom]
  split <;> rfl

theorem State.raiseSelect_revokeFrom (p : Port) (r : Rail) (l : List Handle) (s : State) :
    (s.raiseSelect p).revokeFrom r l = (s.revokeFrom r l).raiseSelect p := by
  induction l generalizing s with
  | nil => rfl
  | cons h hs ih =>
    simp only [State.revokeFrom, State.raiseSelect_rail, State.raiseSelect_endRecord]
    split
    · exact ih _
    · rfl

theorem State.raiseSelect_revoke (s : State) (p : Port) (r : Rail) :
    (s.raiseSelect p).revoke r = (s.revoke r).raiseSelect p := by
  rw [State.revoke, State.raiseSelect_revokeFrom]
  cases p <;> rfl

theorem State.raiseSelect_countGrants (s t : State) (p : Port) (r : Rail) :
    (s.raiseSelect p).countGrants (t.raiseSelect p) r = (s.countGrants t r).raiseSelect p := by
  simp only [State.countGrants, State.raiseSelect_rail, State.raiseSelect_countChange]
  split <;> rfl

theorem State.raiseSelect_limitChange (s : State) (p : Port) (r : Rail) (old : Nat) :
    (s.raiseSelect p).limitChange r old =
      ((s.limitChange r old).1.raiseSelect p, (s.limitChange r old).2) := by
  simp only [State.limitChange, State.raiseSelect_mode, State.raiseSelect_rail,
    State.raiseSelect_revoke, State.raiseSelect_scan, State.raiseSelect_countGrants,
    State.raiseSelect_countChange]
  repeat' split
  all_goals rfl

theorem State.raiseSelect_giveWay (s : State) (p : Port) (h : Handle) (b : Booking) :
    (s.raiseSelect p).giveWay h b = (s.giveWay h b).raiseSelect p := by
  simp only [State.giveWay, State.leaveGrants, State.raiseSelect_record, State.raiseSelect_onRail,
    State.raiseSelect_postNotice, State.raiseSelect_setRecord]
  split <;> rfl

theorem State.raiseSelect_restartRecord (s : State) (p : Port) (h : Handle) :
    (s.raiseSelect p).restartRecord h = (s.restartRecord h).raiseSelect p := by
  simp only [State.restartRecord, State.raiseSelect_record, State.raiseSelect_freeRecord,
    State.raiseSelect_outputRow, State.raiseSelect_dropNotice, State.raiseSelect_setRecord]
  repeat' split
  all_goals rfl

theorem State.raiseSelect_restartRecords (p : Port) (l : List Handle) (s : State) :
    (s.raiseSelect p).restartRecords l = (s.restartRecords l).raiseSelect p := by
  induction l generalizing s with
  | nil => rfl
  | cons h hs ih => simp only [State.restartRecords, State.raiseSelect_restartRecord, ih]

theorem State.raiseSelect_restartRail (s : State) (p : Port) (r : Rail) :
    (s.raiseSelect p).restartRail r = (s.restartRail r).raiseSelect p := by
  simp only [State.restartRail, State.raiseSelect_onRail, State.raiseSelect_scan]

theorem State.raiseSelect_restartPort (s : State) (p q : Port) :
    (s.raiseSelect p).restartPort q = (s.restartPort q).raiseSelect p := by
  cases p <;> cases q <;> rfl

theorem State.raiseSelect_abandonCapture (s : State) (p q : Port) :
    (s.raiseSelect p).abandonCapture q = (s.abandonCapture q).raiseSelect p := by
  cases p <;> cases q <;> rfl

/-! ## A command at its block -/

/-- Raising chip select commutes with a command at its block, and does not change its reply. -/
theorem State.raiseSelect_run (s : State) (p : Port) (c : Command) (f : Fields) :
    (s.raiseSelect p).run c p f = ((s.run c p f).1.raiseSelect p, (s.run c p f).2) := by
  cases c with
  | identify =>
    cases p <;> rfl
  | request =>
    simp only [State.run, cmdRequest, State.requestAdmit, State.requestNew, State.requestClaim, State.handOver,
      State.refuse, State.joinGrants, State.grantedRecord, State.claimedTripped,
      State.raiseSelect_record, State.raiseSelect_channel, State.raiseSelect_outputRow,
      State.raiseSelect_covering, State.raiseSelect_portRow, State.raiseSelect_counted,
      State.raiseSelect_lowestFree, State.raiseSelect_asked, State.raiseSelect_fits,
      State.raiseSelect_noRoom, State.raiseSelect_patience, State.raiseSelect_giveWay,
      State.raiseSelect_setRecord, State.raiseSelect_onRail, State.raiseSelect_onChannel,
      State.raiseSelect_enterList, State.raiseSelect_scan, State.raiseSelect_countChange,
      State.raiseSelect_recordRank]
    repeat' split
    all_goals rfl
  | release =>
    simp only [State.run, cmdRelease, State.refuseHandle, State.raiseSelect_resolve, State.raiseSelect_record,
      State.raiseSelect_freeRecord, State.raiseSelect_scan, State.raiseSelect_countChange]
    repeat' split
    all_goals rfl
  | renew =>
    simp only [State.run, cmdRenew, State.refuseHandle, State.raiseSelect_resolve, State.raiseSelect_record,
      State.raiseSelect_patience, State.raiseSelect_outputRow, State.raiseSelect_setRecord,
      State.raiseSelect_countChange]
    repeat' split
    all_goals rfl
  | resize =>
    simp only [State.run, cmdResize, State.resizeWaiter, State.resizeLower, State.resizeRaise, State.refuseHandle,
      State.raiseSelect_resolve, State.raiseSelect_record, State.raiseSelect_outputRow,
      State.raiseSelect_setRecord, State.raiseSelect_onRail, State.raiseSelect_scan,
      State.raiseSelect_fits, State.raiseSelect_noRoom, State.raiseSelect_recordRank,
      State.raiseSelect_countChange]
    repeat' split
    all_goals rfl
  | forceEnd =>
    simp only [State.run, cmdForceEnd, State.refuse, State.raiseSelect_record, State.raiseSelect_endRecord,
      State.raiseSelect_scan, State.raiseSelect_countChange]
    repeat' split
    all_goals rfl
  | lookupOutput =>
    simp only [State.run, cmdLookupOutput, State.refuse, State.raiseSelect_channel, State.raiseSelect_covering,
      State.raiseSelect_record]
    repeat' split
    all_goals rfl
  | nextNotice =>
    simp only [State.run, cmdNextNotice, State.refuse, State.raiseSelect_noticeOrder, State.raiseSelect_record]
    repeat' split
    all_goals rfl
  | ackNotice =>
    simp only [State.run, cmdAckNotice, State.refuseHandle, State.raiseSelect_record,
      State.raiseSelect_freeRecord, State.raiseSelect_dropNotice, State.raiseSelect_setRecord,
      State.raiseSelect_countChange]
    repeat' split
    all_goals rfl
  | setPatience =>
    simp only [State.run, cmdSetPatience, State.refuse]
    split
    · rfl
    · cases p <;> rfl
  | setCap =>
    simp only [State.run, cmdSetCap, State.refuse, State.raiseSelect_rail, State.raiseSelect_onRail,
      State.raiseSelect_limitChange]
    split <;> rfl
  | readRail =>
    simp only [State.run, cmdReadRail, State.refuse, State.raiseSelect_rail]
    repeat' split
    all_goals rfl
  | capture =>
    simp only [State.run, cmdCapture, State.refuse, State.raiseSelect_capture, State.raiseSelect_changeCount]
    repeat' split
    all_goals first | rfl | (cases p <;> rfl)
  | flip =>
    simp only [State.run, cmdFlip, State.refuse, State.raiseSelect_capture]
    repeat' split
    all_goals first | rfl | (cases p <;> rfl)
  | readImage =>
    simp only [State.run, cmdReadImage, State.refuse, State.raiseSelect_front]
    repeat' split
    all_goals rfl
  | readRow =>
    simp only [State.run, cmdReadRow, State.refuse, State.raiseSelect_shadow]
    repeat' split
    all_goals rfl
  | loadStage =>
    simp only [State.run, cmdLoadStage, State.refuse, State.raiseSelect_shadow, State.raiseSelect_staging]
    split
    · rfl
    · cases p <;> rfl
  | stageField =>
    simp only [State.run, cmdStageField, State.refuse, State.raiseSelect_staging]
    split
    · cases p <;> rfl
    · rfl
  | writeRow =>
    simp only [State.run, cmdWriteRow, State.refuse, State.raiseSelect_write, State.raiseSelect_stagedFault,
      State.raiseSelect_leaseRefused, State.raiseSelect_stagedRow]
    repeat' split
    all_goals first | rfl | (cases p <;> rfl)
  | reload =>
    simp only [State.run, cmdReload, State.refuse, State.raiseSelect_write]
    split
    · rfl
    · cases p <;> rfl
  | openPart =>
    simp only [State.run, cmdOpen, State.refuse, State.raiseSelect_write, State.raiseSelect_shadow,
      State.raiseSelect_barredOutputs]
    split
    · rfl
    · cases p <;> rfl
  | closePart =>
    simp only [State.run, cmdClose, State.raiseSelect_notFree, State.raiseSelect_endedCount,
      State.raiseSelect_abandonCapture]
    split
    · cases p <;> rfl
    · rfl
  | restart =>
    simp only [State.run, cmdRestart, State.raiseSelect_restartRecords, State.raiseSelect_restartRail,
      State.raiseSelect_restartPort, State.raiseSelect_countChange, State.raiseSelect_deviceHeld,
      State.raiseSelect_notFree]

/-! ## Frames -/

/-- What is heard at a port. -/
theorem State.hears_cases {s : State} {p : Port} (h : s.hears p = true) :
    ((s.port p).shifter = .idle ∧ s.inColdReset = false) ∨
      ∃ frame, (s.port p).shifter = .shifting frame ∧ frame.count = 0 := by
  unfold State.hears at h
  split at h
  · next hs => exact .inl ⟨hs, by simpa using h⟩
  · next frame hs => exact .inr ⟨frame, hs, by simpa using h⟩
  · cases h
  · cases h

/-- A frame that is heard is judged as the command names it. -/
theorem State.hears_frameEnd {s : State} {p : Port} (h : s.hears p = true) (a : Arrival) :
    s.frameEnd p a = (s.raiseSelect p).judge p a := by
  unfold State.frameEnd
  rcases s.hears_cases h with ⟨hs, hr⟩ | ⟨frame, hs, hc⟩
  · simp [hs, hr]
  · simp [hs, hc]

/-- A command's code names it and is not POLL's. -/
@[simp] theorem Command.ofCode_code (c : Command) : Command.ofCode c.code = some c := by
  cases c <;> rfl

/-- No command but POLL has POLL's code. -/
theorem Command.code_ne_poll (c : Command) : c.code ≠ pollCode := by cases c <;> decide

/-- The frame of a command is judged as its code and fields. -/
theorem Command.exec_frame (c : Command) (p : Port) (f : Fields) (s : State) :
    exec (c.frame p f) s = .next (s.frameEnd p (.good { code := c.code, fields := f })) := by
  cases c <;> rfl

/-- An admitted frame reaches step 6 of the intake. -/
theorem State.admits_exec {s : State} {p : Port} {f : Fields} (h : s.admits p f = true)
    (c : Command) : exec (c.frame p f) s = .next ((s.raiseSelect p).execute p c c.code f) := by
  simp only [State.admits, Bool.and_eq_true, decide_eq_true_eq] at h
  obtain ⟨⟨hh, hs⟩, hl⟩ := h
  have hs' : ((s.raiseSelect p).port p).slow = none := by
    rw [State.raiseSelect, State.onPort_port_same]; simpa using hs
  have hl' : ((s.raiseSelect p).port p).lastSeq ≠ some f.seq := by
    rw [State.raiseSelect, State.onPort_port_same]; exact hl
  rw [c.exec_frame, State.hears_frameEnd hh, State.judge, State.intake]
  simp only [c.code_ne_poll, hs', hl', Command.ofCode_code, if_false, Option.isSome_none,
    Bool.false_eq_true]

/-- The answer of an executed frame, after chip select was raised. -/
theorem State.raiseSelect_answer (s : State) (p : Port) (code : BitVec 7) (f : Fields)
    (reply : Reply) :
    (s.raiseSelect p).answer p code f.seq (some f.seq) reply = s.replied p code f reply := by
  cases p <;> rfl

/-- What a frame taken at step 9 comes to, for every command but RESTART: the command at its block,
and the reply. -/
theorem State.takes_exec {s : State} {p : Port} {c : Command} {f : Fields}
    (h : s.takes p c f = true) (hc : c ≠ .restart) :
    exec (c.frame p f) s = .next ((s.run c p f).1.replied p c.code f (s.run c p f).2) := by
  simp only [State.takes, Bool.and_eq_true, Bool.not_eq_true'] at h
  obtain ⟨⟨ha, hr⟩, hm⟩ := h
  rw [State.admits_exec ha, State.execute]
  simp only [State.raiseSelect_portRow, State.raiseSelect_mode, hr, hm, if_true,
    Bool.false_eq_true, if_false, State.raiseSelect_run, Command.lastSeqAfter, hc,
    State.raiseSelect_answer]

end Sys2Proof.Machine
end

