-- ==== Sys2Proof/Laws/Intake.lean ====
section
/-! SUPPORT. What a frame does at its port: it is carried out, or it changes nothing but that port. -/

namespace Sys2Proof.Machine

/-- A command that is a frame is the rise of chip select on what it names. -/
theorem exec_frameEnd {i : Instr} {p : Port} (h : framePort? i = some p) :
    ∃ named, (∀ s, exec i s = .next (s.frameEnd p named))
      ∧ (∀ content, named = .good content ↔ content? i = some content) := by
  cases i <;> cases h
  case frameLengthFail => exact ⟨.badLength, fun _ => rfl, fun _ => by simp [content?]⟩
  case frameCrcFail => exact ⟨.badCrc, fun _ => rfl, fun _ => by simp [content?]⟩
  all_goals exact ⟨.good ⟨_, _⟩, fun _ => rfl, fun _ => by simp [content?, pollCode]⟩

/-- A command of the table has one code. -/
theorem Command.code_ofCode {code : BitVec 7} {c : Command} (h : Command.ofCode code = some c) :
    c.code = code := by
  revert code c; decide

/-- A good frame that the intake judges is carried out, or changes its own port alone. -/
theorem State.intake_cases (s : State) (p : Port) (content : Content) :
    (∃ c, content.code = c.code ∧ (s.port p).slow = none
        ∧ (s.port p).lastSeq ≠ some content.fields.seq
        ∧ (c.isSupervisor = true → (s.portRow p).role = .full) ∧ c.takenIn s.mode = true
        ∧ s.intake p content = s.execute p c c.code content.fields)
      ∨ ∃ g, s.intake p content = s.onPort p g := by
  unfold State.intake
  split
  · exact .inr ⟨_, rfl⟩
  · split
    · exact .inr ⟨_, rfl⟩
    · next hs =>
      split
      · exact .inr ⟨_, rfl⟩
      · next hl =>
        split
        · exact .inr ⟨_, rfl⟩
        · next c hc =>
          have hcode := Command.code_ofCode hc
          by_cases hr : (c.isSupervisor && (s.portRow p).role = .lease) = true
          · exact .inr ⟨_, by rw [State.execute, if_pos hr]; rfl⟩
          · by_cases hm : c.takenIn s.mode = true
            · refine .inl ⟨c, hcode.symm, by simpa using hs, hl, fun hsup => ?_, hm, by rw [hcode]⟩
              rcases hrole : (s.portRow p).role with _ | _
              · rfl
              · simp [hsup, hrole] at hr
            · exact .inr ⟨_, by rw [State.execute, if_neg hr, if_neg hm]; rfl⟩

/-- What a frame can do: a command carried out, or a write of its own port alone. -/
theorem frame_cases {i : Instr} {p : Port} {s t : State} (h : framePort? i = some p)
    (ht : exec i s = .next t) :
    (∃ c f, s.CarriesOut i p c f ∧ t = (s.raiseSelect p).execute p c c.code f)
      ∨ ∃ g, t = s.onPort p g := by
  obtain ⟨named, hexec, hnamed⟩ := exec_frameEnd h
  rw [hexec] at ht
  cases ht
  have own : ∀ g, ∃ g', (s.raiseSelect p).onPort p g = s.onPort p g' := fun g =>
    ⟨fun ps => g { ps with shifter := .idle, dataOut := none }, by cases p <;> rfl⟩
  have judged : ∀ a, (∀ content, a = .good content → s.found? i p = some content) →
      (∃ c f, s.CarriesOut i p c f ∧ (s.raiseSelect p).judge p a
          = (s.raiseSelect p).execute p c c.code f)
        ∨ ∃ g, (s.raiseSelect p).judge p a = s.onPort p g := by
    intro a ha
    match a, ha with
    | .badLength, _ =>
      exact .inr (own (fun ps => { ps with register := { ps.register with intake := .length } }))
    | .badCrc, _ =>
      exact .inr (own (fun ps => { ps with register := { ps.register with intake := .check } }))
    | .good content, ha =>
      rcases (s.raiseSelect p).intake_cases p content with ⟨c, hc, hs, hl, hr, hm, he⟩ | ⟨g, he⟩
      · refine .inl ⟨c, content.fields, ⟨?_, ?_, ?_, ?_, ?_⟩, he⟩
        · rw [ha content rfl, ← hc]
        · cases p <;> exact hs
        · cases p <;> exact hl
        · cases p <;> exact hr
        · cases p <;> exact hm
      · rw [State.judge, he]; exact .inr (own g)
  unfold State.frameEnd
  split
  · next hs =>
    split
    · exact .inr ⟨id, by cases p <;> rfl⟩
    · next hr =>
      refine judged named fun content hg => ?_
      rw [State.found?, if_pos h, hs]
      simp only [if_neg hr]
      exact (hnamed content).1 hg
  · exact .inr ⟨_, rfl⟩
  · exact .inr ⟨_, rfl⟩
  · next frame hs =>
    refine judged _ fun content hg => ?_
    rw [State.found?, if_pos h, hs]
    dsimp only
    split
    · next hc => rw [if_pos hc] at hg; exact (hnamed content).1 hg
    · next hc => rw [if_neg hc] at hg; rw [hg]

/-- A frame of a command that is taken is carried out. -/
theorem State.takes_carriesOut {s : State} {p : Port} {c : Command} {f : Fields}
    (h : s.takes p c f = true) : s.CarriesOut (c.frame p f) p c f := by
  simp only [State.takes, State.admits, Bool.and_eq_true, decide_eq_true_eq, Bool.not_eq_true'] at h
  obtain ⟨⟨⟨⟨hh, hs⟩, hl⟩, hr⟩, hm⟩ := h
  refine ⟨?_, by simpa using hs, hl, fun hsup => ?_, hm⟩
  · have hp : framePort? (c.frame p f) = some p := by cases c <;> rfl
    have hc : content? (c.frame p f) = some ⟨c.code, f⟩ := by cases c <;> rfl
    rw [State.found?, if_pos hp]
    rcases s.hears_cases hh with ⟨hi, hreset⟩ | ⟨frame, hi, hz⟩
    · simp [hi, hreset, hc]
    · simp [hi, hz, hc]
  · rcases hrole : (s.portRow p).role with _ | _
    · rfl
    · simp [hsup, hrole] at hr

end Sys2Proof.Machine
end

