-- ==== Sys2Proof/Laws/Timers.lean ====
section
/-! SUPPORT. What the two halves of a TERM_TIMER_TICK write. -/

namespace Sys2Proof.Machine

@[simp] theorem State.runCountdowns_record (s : State) (due : BitVec 48) (h : Handle) :
    (s.runCountdowns due).record h =
      if due.getLsbD h.val then (s.record h).lowerCountdown else s.record h := by
  simp [State.runCountdowns, State.record]

@[simp] theorem State.runCountdowns_mode (s : State) (due : BitVec 48) :
    (s.runCountdowns due).mode = s.mode := by
  simp only [State.runCountdowns]

@[simp] theorem State.runCountdowns_rail (s : State) (due : BitVec 48) (r : Rail) :
    (s.runCountdowns due).rail r = s.rail r := by
  simp only [State.runCountdowns, State.rail]

/-- The countdowns change the records alone. -/
theorem State.runCountdowns_eq (s : State) (due : BitVec 48) :
    s.runCountdowns due = { s with records := (s.runCountdowns due).records } := rfl

@[simp] theorem State.runFilters_record (s : State) (filters : BitVec 4) (h : Handle) :
    (s.runFilters filters).record h = s.record h := by
  unfold State.runFilters; split <;> rfl

/-- The filters' time shows a candidate for 10 ms more, outside LOADING. -/
theorem State.runFilters_rail (s : State) (filters : BitVec 4) (r : Rail) :
    (s.runFilters filters).rail r =
      if s.mode ≠ .loading ∧ filters.getLsbD r.val = true then (s.rail r).showCandidate
      else s.rail r := by
  unfold State.runFilters
  by_cases h : s.mode = .loading <;> simp [h, State.rail]

/-- The filters' time changes the accounts alone. -/
theorem State.runFilters_eq (s : State) (filters : BitVec 4) :
    s.runFilters filters = { s with rails := (s.runFilters filters).rails } := by
  unfold State.runFilters; split <;> rfl

/-- No limit depends on a candidate. -/
@[simp] theorem Account.showCandidate_limit (a : Account) : a.showCandidate.limit = a.limit := rfl

end Sys2Proof.Machine
end

