-- ==== Sys2Proof/Tests/Slice0.lean ====
section
/-! SUPPORT. Tests against the manual's worked examples, one step each, and for every statement with
hypotheses a state and operands that meet them. -/

namespace Sys2Proof.Tests

open Sys2Proof.Machine

-- One theorem after another: many kernel evaluations at once would each hold a thread's stack.
set_option Elab.async false

/-! ## Small states -/

/-- Thirty GOOD rows, every output in use on rail 0 but 8 and 9 on rail 1. -/
def rows : Profile :=
  { outputs := Vector.ofFn (fun n : Output =>
      ⟨.good, ⟨true, if n = 8 ∨ n = 9 then 1 else 0, 60, .off, 1, 50⟩⟩)
    rails := Vector.replicate 4 ⟨.good, ⟨120, 60, 10, 5⟩⟩
    portA := ⟨.good, ⟨.full, 24, 500⟩⟩
    portB := ⟨.good, ⟨.lease, 24, 500⟩⟩ }

/-- SERVICE with no record taken, every rail NORMAL with limit 120 and reserve 10. -/
def service : State :=
  { State.reset with
    supplyLow := false, mode := .service, shadow := rows, array := rows
    rails := Vector.replicate 4
      { Account.coldReset true true with
        nominal := 120, reduced := 60, reserve := 10, filterTime := 5, health := .normal } }

/-- SETUP with the same profile. -/
def setup : State := { service with mode := .setup }

/-- SETUP with a row write of Port A in flight. -/
def writing (w : RowWrite) : State :=
  ({ setup with write := some ⟨.a, w⟩ }).onPort .a (fun ps => { ps with slow := some .writeRow })

/-- A RELOAD of Port A that reads row `k` next. -/
def reloading (k : Fin 30) : State :=
  ({ setup with mode := .loading, load := some k }).onPort .a (fun ps =>
    { ps with slow := some .reload })

/-- A channel that is ON, in RETRY with this time left, or BARRED. -/
def onChannel : Channel := { Channel.coldReset false with state := .on, enableHigh := true }
def retryChannel (k : Nat) : Channel :=
  { Channel.coldReset false with state := .retry, retryTimer := some k }
def barredChannel : Channel := { Channel.coldReset false with state := .barred, barred := true }

/-- SERVICE with a record in each state: 1 GRANTED, 2 WAITING, 3 HELD with LAPSED_HELD, 4 TRIPPED, 5
ENDED, 6 TRIPPED under DEVICE, 7 HELD, 8 GRANTED. Output 23 is BARRED. -/
def leased : State :=
  { service with
    records := (((((((service.records.set 0 (.granted ⟨14, 0, 2, 40⟩ ⟨.a, 2⟩ 1000 900 1 none)
      ).set 1 (.waiting ⟨5, 0, 1, 60⟩ ⟨.b, 4⟩ 500 300)
      ).set 2 (.held ⟨3, 0, 0, 20⟩ 1 (some ⟨.lapsedHeld, ⟨.a, 2⟩⟩))
      ).set 3 (.tripped ⟨4, 0, 2, 10⟩ ⟨.a, 2⟩ 700 650 0 (some ⟨.tripped, ⟨.a, 2⟩⟩))
      ).set 4 (.ended ⟨6, 0, 3, 5⟩ ⟨.revoked, ⟨.a, 2⟩⟩)
      ).set 5 (.deviceTripped ⟨7, 0, 1, 8⟩ 2 none)
      ).set 6 (.held ⟨8, 1, 2, 15⟩ 1 none)
      ).set 7 (.granted ⟨9, 1, 0, 10⟩ ⟨.b, 3⟩ 200 100 1 none)
    rails := (service.rails.set 0 { service.rail 0 with
        committed := 78, waiting := [1], grantOrder := [0, 2, 3, 5] }).set 1
      { service.rail 1 with committed := 25, grantOrder := [6, 7] }
    channels := ((((((service.channels.set 14 onChannel).set 3 onChannel).set 8 onChannel).set 9
      onChannel).set 4 (retryChannel 50)).set 7 (retryChannel 20)).set 23 barredChannel
    portA := { service.portA with noticeOrder := [2, 3, 4], attnLow := true } }

/-- A table with no FREE record. -/
def fullTable : State :=
  { service with records := Vector.replicate 48 (.ended ⟨0, 0, 0, 1⟩ ⟨.forced, ⟨.b, 1⟩⟩) }

/-- A port A frame part way through its bits. -/
def shifting : State :=
  service.onPort .a (fun ps =>
    { ps with shifter := .shifting ⟨1, 1, 0, 2⟩, dataOut := some false })

/-- Port A's chip select low on a frame not received, and on one cut off. -/
def unanswered : State := service.onPort .a (fun ps => { ps with shifter := .unanswered })
def abandoned : State := service.onPort .a (fun ps => { ps with shifter := .abandoned })

/-- Request fields: tag 2, class 2, WAIT clear. -/
def fields (sel a b : Nat) : Fields :=
  { seq := true, tag := 2, selector := BitVec.ofNat 7 sel, cls := 2, wait := false
    valueA := BitVec.ofNat 13 a, valueB := BitVec.ofNat 13 b }

/-- The state after a command that answers one. -/
def after (i : Instr) (s : State) : State :=
  match exec i s with
  | .next t => t
  | .fault _ => s
  | .refused _ => s

/-- The reply in a port's register after a command. -/
def replyTo (i : Instr) (p : Port) (s : State) : Reply := ((after i s).port p).register.reply

/-! ## Well-formed commands -/

/-- An UNKNOWN_COMMAND may not carry POLL's code nor REQUEST's, and may carry 2 (Table 12-3). -/
theorem test_unknown_command_refuses_poll_code :
    (Instr.unknownCommand .a 0 (fields 0 0 0)).wellFormed = false := by decide
theorem test_unknown_command_refuses_named_code :
    (Instr.unknownCommand .a 16 (fields 0 0 0)).wellFormed = false := by decide
theorem test_unknown_command_takes_unnamed_code :
    (Instr.unknownCommand .a 2 (fields 0 0 0)).wellFormed = true := by decide
/-- The table's rows carry no bits. -/
theorem test_no_word_spells_a_command : decodeTableWord 8 1 = none := by decide

/-! ## The manual's worked examples -/

/-- 12.4: the reply of SETUP's IDENTIFY, and of LOADING's just after cold reset. -/
theorem test_identify_in_setup :
    replyTo (.identify .a (fields 0 0 0)) .a setup = ⟨.done, 0, 6680, 640⟩ := by decide +kernel
theorem test_identify_after_cold_reset :
    replyTo (.identify .a (fields 0 0 0)) .a { State.reset with supplyLow := false }
      = ⟨.done, 0, 6680, 542⟩ := by decide +kernel

/-- 12.4: LOOKUP OUTPUT's value B for a HELD record of class 0, and a barred output's reply. -/
theorem test_lookup_held : packLookup (.held ⟨3, 0, 0, 20⟩ 1 none) false = 4864 := by decide
theorem test_lookup_barred :
    replyTo (.lookupOutput .a (fields 23 0 0)) .a leased = ⟨.done, 0, 0, 1⟩ := by decide +kernel

/-- 12.4: parts 0 and 3 of the image of the ended record 13. -/
theorem test_image_part_0 :
    (Image.mk 12 (.ended ⟨13, 3, 3, 4⟩ ⟨.notGranted, ⟨.b, 4⟩⟩) 0 1 6).part 0 = some (5134, 1) := by
  decide
theorem test_image_part_3 :
    (Image.mk 12 (.ended ⟨13, 3, 3, 4⟩ ⟨.notGranted, ⟨.b, 4⟩⟩) 0 1 6).part 3 = some (180, 6) := by
  decide

/-- Table 3-2: the room of a rail with nominal 100, reduced 50 and reserve 20. -/
theorem test_room_normal :
    let a : Account := { service.rail 0 with nominal := 100, reserve := 20, committed := 85 }
    a.room 0 = 15 ∧ a.room 1 = 0 := by decide +kernel
theorem test_room_reduced :
    let a : Account := { service.rail 0 with
      nominal := 100, reduced := 50, reserve := 20, committed := 40, health := .reduced }
    a.limit = 50 ∧ a.room 0 = 10 ∧ a.room 3 = 0 := by decide +kernel

/-- 3.6: rail 2 as Table 3-5 has it, its candidate REDUCED shown for 50 ms. -/
def beforeFall : State :=
  { service with
    records := (((((service.records.set 2 (.granted ⟨3, 2, 0, 20⟩ ⟨.a, 1⟩ 100 100 1 none)
      ).set 3 (.granted ⟨4, 2, 2, 25⟩ ⟨.a, 1⟩ 100 100 1 none)
      ).set 6 (.granted ⟨7, 2, 3, 15⟩ ⟨.a, 1⟩ 100 100 1 none)
      ).set 7 (.granted ⟨8, 2, 2, 30⟩ ⟨.a, 1⟩ 100 100 1 none)
      ).set 8 (.granted ⟨9, 2, 1, 20⟩ ⟨.a, 1⟩ 100 100 1 none)
      ).set 10 (.waiting ⟨11, 2, 1, 8⟩ ⟨.b, 3⟩ 100 50)
    rails := service.rails.set 2 { service.rail 2 with
      committed := 110, waiting := [10], grantOrder := [2, 3, 6, 7, 8], full := false
      candidate := some ⟨.reduced, 5⟩ } }

/-- Table 3-6: records 7, 8 and 4 are revoked in that order and record 11 is granted. -/
theorem test_fall_to_reduced :
    let t := after (.healthLevelTaken 2) beforeFall
    (t.rail 2).grantOrder = [2, 8, 10] ∧ (t.rail 2).committed = 48 ∧ t.changeCount = 1
      ∧ t.portA.noticeOrder = [6, 7, 3] ∧ t.portB.noticeOrder = [10] := by decide +kernel

/-- R34: at 40 ms of a filter time of 50 the candidate is not taken, and the tick's bit for the rail
shows it for the 10 ms it lacks. -/
theorem test_filter_time_runs :
    let s := beforeFall.onRail 2 (fun a => { a with candidate := some ⟨.reduced, 4⟩ })
    after (.healthLevelTaken 2) s = s
      ∧ ((after (.termTimerTick ⟨0, 4⟩) s).rail 2).candidate = some ⟨.reduced, 5⟩ := by
  decide +kernel

/-- 4.7: rail 3 after step 4 of Table 4-1. -/
def beforeRelease : State :=
  { service with
    records := ((((((service.records.set 4 (.granted ⟨5, 3, 2, 25⟩ ⟨.a, 9⟩ 100 100 1 none)
      ).set 5 (.granted ⟨6, 3, 1, 30⟩ ⟨.b, 2⟩ 100 100 1 none)
      ).set 6 (.granted ⟨7, 3, 0, 20⟩ ⟨.a, 3⟩ 100 100 1 none)
      ).set 14 (.granted ⟨15, 3, 0, 3⟩ ⟨.b, 1⟩ 100 100 1 none)
      ).set 13 (.waiting ⟨14, 3, 1, 6⟩ ⟨.a, 6⟩ 100 100)
      ).set 11 (.waiting ⟨12, 3, 2, 10⟩ ⟨.a, 2⟩ 100 100)
      ).set 12 (.waiting ⟨13, 3, 3, 4⟩ ⟨.b, 4⟩ 100 100)
    rails := service.rails.set 3 { service.rail 3 with
      nominal := 80, committed := 78, waiting := [13, 11, 12], grantOrder := [4, 5, 6, 14] } }

/-- Table 4-2: the scan of the release grants records 14 and 12 and stops at 13. -/
theorem test_release_scans :
    let t := after (.release .a { fields 5 0 0 with tag := 9 }) beforeRelease
    (t.rail 3).grantOrder = [5, 6, 14, 13, 11] ∧ (t.rail 3).committed = 69
      ∧ (t.rail 3).waiting = [12] ∧ t.portA.noticeOrder = [13, 11] := by decide +kernel

/-- Table 6-4 step 1: a grant into a faulted switch turns the channel ON and raises a trip. -/
theorem test_grant_into_fault :
    let t := after (.request .b (fields 14 40 1000))
      (service.onChannel 14 (fun c => { c with faultLow := true }))
    (t.channel 14).enableHigh = true ∧ (t.channel 14).tripRaised = true
      ∧ t.portB.register.reply = ⟨.granted, 1, 40, 0⟩ := by decide +kernel

/-- Table 6-4 step 2: the trip takes the retry left and starts the delay of 50. -/
theorem test_trip_starts_delay :
    let t := after (.trip 14) (leased.onChannel 14 (fun c => { c with tripRaised := true }))
    t.record 0 = .tripped ⟨14, 0, 2, 40⟩ ⟨.a, 2⟩ 1000 900 0 (some ⟨.tripped, ⟨.a, 2⟩⟩)
      ∧ (t.channel 14).retryTimer = some 50 ∧ (t.channel 14).enableHigh = false
      ∧ (t.rail 0).committed = 78 := by decide +kernel

/-- 5.7 without a notice: a claim of a hold that owes none frees it and takes its handle again. -/
theorem test_claim_takes_lowest_free :
    replyTo (.request .a (fields 8 15 500)) .a
      { leased with records := leased.records.set 4 .free } = ⟨.granted, 5, 15, 7⟩ := by decide +kernel

/-- 10.9: RESTART, with one record under HOLD, frees the others and replies with both numbers. -/
theorem test_restart_reply :
    let hold : Row OutputRow := ⟨.good, ⟨true, 0, 60, .hold, 1, 50⟩⟩
    let s : State := { leased with shadow := leased.shadow.setOutput 14 hold }
    replyTo (.restart .a (fields 0 0 0)) .a s = ⟨.done, 0, 4, 4⟩
      ∧ ((after (.restart .a (fields 0 0 0)) s).rail 0).committed = 68 := by decide +kernel

/-- Table 8-1, 170 µs and 250 µs: FLIP in COPYING, and of a completed capture. -/
theorem test_flip_copying :
    replyTo (.flip .b (fields 0 0 0)) .b
      (service.onPort .b (fun ps => { ps with capture := .copying 9 4 [] }))
      = ⟨.captureBusy, 0, 0, 0⟩ := by decide +kernel
theorem test_flip_complete :
    replyTo (.flip .b (fields 0 0 0)) .b (service.onPort .b (fun ps =>
      { ps with capture := .complete ⟨9, [⟨9, .free, 0, 0, 300⟩, ⟨10, .free, 0, 0, 301⟩]⟩ }))
      = ⟨.done, 10, 300, 301⟩ := by decide +kernel

/-- Table 7-3 steps 6 and 5: ACK NOTICE by a party that is not owed the notice, and by one that is. -/
theorem test_ack_not_owed :
    replyTo (.ackNotice .a { fields 5 0 0 with tag := 7 }) .a leased = ⟨.noNotice, 5, 0, 0⟩ := by
  decide +kernel
/-- R109: a BAD_HANDLE reply carries the handle named. -/
theorem test_ack_carries_named_handle :
    replyTo (.ackNotice .a (fields 63 0 0)) .a leased = ⟨.badHandle, 63, 0, 0⟩ := by decide +kernel
theorem test_ack_frees_ended :
    let t := after (.ackNotice .a (fields 5 0 0)) leased
    t.record 4 = .free ∧ t.portA.register.reply = ⟨.done, 5, 6, 1⟩
      ∧ t.portA.noticeOrder = [2, 3] := by decide +kernel

/-- R136, R137: a row 29 in range is put in flight, and its completion writes both copies (R138). -/
theorem test_write_row_pending :
    let t := after (.writeRow .a (fields 29 0 0))
      { setup with staging := (setup.staging.set 11 48).set 12 8191 }
    t.portA.register.reply = ⟨.pending, 0, 29, 0⟩
      ∧ t.write = some ⟨.a, .port .b ⟨.full, 48, 8191⟩⟩ := by decide +kernel
theorem test_write_row_completes :
    let t := after (.writeRowCompletion true) (writing (.output 8 ⟨false, 2, 7, .hold, 3, 9⟩))
    t.portA.register.reply = ⟨.done, 0, 8, 0⟩ ∧ t.outputRow 8 = ⟨false, 2, 7, .hold, 3, 9⟩
      ∧ (t.channel 8).state = .barred ∧ t.mode = .setup := by decide +kernel

/-- R129, R130: row 29 ends the load in SETUP with RELOAD's reply. -/
theorem test_last_row_ends_load :
    let t := after .rowRead (reloading 29)
    t.mode = .setup ∧ t.load = none ∧ t.portA.register.reply.status = .done := by decide +kernel

/-- R156, 13.6: the first reply bit is bit 47 of the content; a content of zeros has CRC 9F (R169). -/
theorem test_select_fall_drives_first_bit :
    (after (.chipSelectFall .a) (service.onPort .a (fun ps => { ps with
      register := { ps.register with echoCode := 64 } }))).portA.dataOut = some true := by
  decide +kernel
theorem test_crc_of_zeros : crc8 0 = 0x9F#8 := by decide +kernel

/-- Each field of a request written out bit by bit (Table 12-1): REQUEST, sequence 1, tag 2, output
14, class 1, WAIT, current 40, term 1000. -/
theorem test_request_fields :
    Content.ofBits 0b0010000_1_0010_0001110_01_1_0000000101000_0001111101000#48
      = ⟨16, ⟨true, 2, 14, 1, true, 40, 1000⟩⟩ := by decide +kernel

/-! ## Witnesses: the hypotheses of each statement, met together -/

/-- `s` with a command at the front of its queue. -/
def queued (i : Instr) (s : State) : State := { s with pending := [i] }

/-- A record that carries no notice owes none to anybody. -/
theorem owes_nobody {r : Record} (h : r.notice? = none) (c : Client) :
    ∀ n, r.notice? = some n → n.owedTo ≠ c := by
  intro n hn; rw [h] at hn; cases hn

/-- EveryCommandAnswersNext: an empty queue, in LOADING and out of it. -/
theorem witness_EveryCommandAnswersNext :
    State.reset.pending = [] ∧ State.reset.mode = .loading
      ∧ service.pending = [] ∧ service.mode ≠ .loading := by decide

theorem leased_waiting : leased.WaitingListsExact := by
  unfold State.WaitingListsExact; decide +kernel
theorem leased_grants : leased.GrantOrdersExact := by
  unfold State.GrantOrdersExact; decide +kernel
theorem leased_notices : leased.NoticeOrdersExact := by
  intro p; cases p <;> decide +kernel
theorem leased_attn : leased.AttnFollowsOrders := by
  intro p; cases p <;> decide +kernel
theorem leased_fits : leased.NoticesFit := by unfold State.NoticesFit; decide +kernel
theorem leased_once : leased.CoversOnce := by
  have found : ∀ o h, (leased.record h).covers o = true → leased.covering o = some h := by
    decide +kernel
  intro h h' o hc hc'
  exact Option.some.inj ((found o h hc).symm.trans (found o h' hc'))
theorem leased_channels : leased.ChannelsFollowRecords := by
  unfold State.ChannelsFollowRecords; decide +kernel

/-- A state without a slow command keeps writes and loads to their modes, out of LOADING. -/
theorem exclusive_when_idle {s : State} (hw : s.write = none) (hl : s.load = none)
    (hm : s.mode ≠ .loading) (hr : s.inColdReset = false) (hp : ∀ p, (s.port p).slow = none) :
    s.StoreExclusive where
  writeInSetup := by simp [hw]
  loadInLoading := by simp [hl]
  loadingLoads := fun h => absurd h hm
  resetLoads := by simp [hr]
  slowWrite := by simp [hw, hp]
  slowReload := by simp [hp]

theorem leased_store : leased.StoreExclusive :=
  exclusive_when_idle rfl rfl (by decide) (by decide) (fun p => by cases p <;> rfl)
theorem setup_store : setup.StoreExclusive :=
  exclusive_when_idle rfl rfl (by decide) (by decide) (fun p => by cases p <;> rfl)
theorem reloading_store : (reloading 29).StoreExclusive where
  writeInSetup := by decide
  loadInLoading := by decide
  loadingLoads := by decide
  resetLoads := by decide
  slowWrite := by intro p; cases p <;> simp [reloading, setup, service, State.reset, State.onPort,
    State.port, PortState.coldReset]
  slowReload := by intro p _; cases p <;> rfl

theorem leased_sound : leased.Sound where
  waiting := leased_waiting
  grants := leased_grants
  notices := leased_notices
  attn := leased_attn
  fits := leased_fits
  once := leased_once
  rails := by unfold State.RailsAgree; decide +kernel
  shapes := by unfold State.ChannelsShaped Channel.Shaped; decide +kernel
  channels := leased_channels
  flags := by unfold State.BarredFlagsShow; decide +kernel
  barring := by unfold State.NamesUnbarred; decide +kernel
  caps := by unfold State.CapsFit; decide +kernel
  limits := by unfold State.WithinLimits; decide +kernel
  heads := by unfold State.HeadsDoNotFit; decide +kernel
  quotas := by intro p; cases p <;> decide +kernel
  empty := by intro h; exact absurd rfl h
  store := leased_store

theorem leased_supervisor : leased.KeepsSupervisor where
  fullPort := by decide
  goodRows := by intro p; cases p <;> decide +kernel
  arrayRoles := by decide +kernel
  badPortA := by decide +kernel
  leaseWrite := by intro q p v h; cases h
  writeMode := by decide
  loadMode := by decide
theorem writing_lease_supervisor : (writing (.port .b ⟨.lease, 1, 1⟩)).KeepsSupervisor where
  fullPort := by decide +kernel
  goodRows := by intro p; cases p <;> decide +kernel
  arrayRoles := by decide +kernel
  badPortA := by decide +kernel
  leaseWrite := by intro q p v h _; cases h; decide +kernel
  writeMode := by decide
  loadMode := by decide

/-- StepKeepsSound, StepKeepsNoticeOrders, StepKeepsStoreModes: a state with the laws steps. -/
theorem sound_queued {s : State} (h : s.Sound) (i : Instr) : (queued i s).Sound where
  waiting := h.waiting
  grants := h.grants
  notices := h.notices
  attn := h.attn
  fits := h.fits
  once := h.once
  rails := h.rails
  shapes := h.shapes
  channels := h.channels
  flags := h.flags
  barring := h.barring
  caps := h.caps
  limits := h.limits
  heads := h.heads
  quotas := h.quotas
  empty := h.empty
  store := ⟨h.store.1, h.store.2, h.store.3, h.store.4, h.store.5, h.store.6⟩
theorem witness_StepKeepsSound :
    (queued (.release .a (fields 1 0 0)) leased).Sound
      ∧ ∃ t, step (queued (.release .a (fields 1 0 0)) leased) = .next t :=
  ⟨sound_queued leased_sound _, _, rfl⟩

/-- StepKeepsRanges. -/
theorem leased_ranges : leased.InRange where
  records h :=
    have all : ∀ h, (∀ b ∈ (leased.record h).booking?, 1 ≤ b.current ∧ b.current ≤ 8191)
      ∧ (∀ t ∈ (leased.record h).term?, 1 ≤ t ∧ t ≤ 8191)
      ∧ (∀ d ∈ (leased.record h).countdown?, d ≤ 8191)
      ∧ ∀ k ∈ (leased.record h).retries?, k ≤ 7 := by decide +kernel
    ⟨(all h).1, (all h).2.1, (all h).2.2.1, (all h).2.2.2⟩
  rails r :=
    have all : ∀ r, (leased.rail r).nominal ≤ 8191 ∧ (leased.rail r).reduced ≤ (leased.rail r).nominal
      ∧ (leased.rail r).reserve ≤ 8191 ∧ (leased.rail r).filterTime ≤ 15
      ∧ (leased.rail r).cap ≤ 8191 ∧ (leased.rail r).committed ≤ 8191 := by decide +kernel
    ⟨(all r).1, (all r).2.1, (all r).2.2.1, (all r).2.2.2.1, (all r).2.2.2.2.1, (all r).2.2.2.2.2⟩
  timers := by decide +kernel
  ports p := by
    cases p <;>
      exact ⟨⟨.inl (by decide), by decide, by decide⟩, by decide, (by intro b h; cases h), trivial⟩
  shadow i := by
    have outputs : ∀ n, (leased.shadow.row (.output n)).InRange := by
      unfold RowWrite.InRange Profile.row; decide +kernel
    have rails : ∀ r, (leased.shadow.row (.rail r)).InRange := by
      unfold RowWrite.InRange Profile.row; decide +kernel
    match i with
    | .output n => exact outputs n
    | .rail r => exact rails r
    | .port .a | .port .b => unfold RowWrite.InRange Profile.row; decide
  array i := by
    have outputs : ∀ n, (leased.array.row (.output n)).InRange := by
      unfold RowWrite.InRange Profile.row; decide +kernel
    have rails : ∀ r, (leased.array.row (.rail r)).InRange := by
      unfold RowWrite.InRange Profile.row; decide +kernel
    match i with
    | .output n => exact outputs n
    | .rail r => exact rails r
    | .port .a | .port .b => unfold RowWrite.InRange Profile.row; decide
  staging := by decide +kernel
  write := by intro w h; cases h
theorem witness_StepKeepsRanges :
    let s := queued (.release .a (fields 1 0 0)) leased
    s.Sound ∧ s.InRange ∧ ∃ t, step s = .next t :=
  ⟨sound_queued leased_sound _, ⟨leased_ranges.1, leased_ranges.2, leased_ranges.3, leased_ranges.4,
    leased_ranges.5, leased_ranges.6, leased_ranges.7, leased_ranges.8⟩, _, rfl⟩
theorem witness_StepKeepsNoticeOrders :
    leased.NoticeOrdersExact ∧ leased.AttnFollowsOrders ∧ ∃ t, step leased = .next t :=
  ⟨leased_notices, leased_attn, _, rfl⟩
theorem witness_StepKeepsStoreModes :
    (reloading 29).StoreExclusive ∧ ∃ t, step (queued .rowRead (reloading 29)) = .next t :=
  ⟨reloading_store, _, rfl⟩
theorem witness_StepKeepsSupervisor :
    leased.StoreExclusive ∧ leased.KeepsSupervisor ∧ ∃ t, step leased = .next t :=
  ⟨leased_store, leased_supervisor, _, rfl⟩

/-- ModeChangesByTable: each of its changes is made. -/
theorem witness_ModeChangesByTable :
    leased.StoreExclusive ∧ setup.StoreExclusive ∧ (reloading 29).StoreExclusive :=
  ⟨leased_store, setup_store, reloading_store⟩
theorem witness_ModeChangesByTable_reset :
    (after (.coldResetBegin .supply) leased).mode = .loading := by decide +kernel
theorem witness_ModeChangesByTable_loaded : (after .rowRead (reloading 29)).mode = .setup := by
  decide +kernel
theorem witness_ModeChangesByTable_reload :
    (after (.reload .a (fields 0 0 0)) setup).mode = .loading := by decide +kernel
theorem witness_ModeChangesByTable_open :
    (after (.openPart .a (fields 0 0 0)) setup).mode = .service := by decide +kernel
theorem witness_ModeChangesByTable_close :
    (after (.closePart .a (fields 0 0 0)) service).mode = .setup := by decide +kernel

/-- OnlyRequestTakesRecords: record 9 is taken, GRANTED and WAITING. -/
theorem witness_OnlyRequestTakesRecords :
    leased.record 8 = .free ∧ (after (.request .a (fields 10 61 9)) leased).record 8 = .free
      ∧ (after (.request .a { fields 10 42 9 with cls := 0 }) leased).record 8 ≠ .free
      ∧ (after (.request .a { fields 10 60 9 with wait := true }) leased).record 8 ≠ .free := by
  decide +kernel

/-- ServiceKeepsProfile, ChangeCountMarksWrites. -/
theorem witness_ServiceKeepsProfile :
    leased.StoreExclusive ∧ leased.mode = .service
      ∧ ∃ t, exec (.release .a (fields 1 0 0)) leased = .next t := ⟨leased_store, rfl, _, rfl⟩
theorem witness_ChangeCountMarksWrites :
    leased.Sound ∧ (after (.release .a (fields 1 0 0)) leased).changeCount = 1
      ∧ (after (.termTimerTick ⟨1, 0⟩) leased).changeCount = 0
      ∧ (after (.termTimerTick ⟨1, 0⟩) leased).records ≠ leased.records :=
  ⟨leased_sound, by decide +kernel, by decide +kernel, by decide +kernel⟩

/-- ModeChangesByTable, PortsKeepApart: RELOAD, OPEN, CLOSE and RESTART are carried out; other frames
carry out neither CLOSE nor RESTART. -/
theorem witness_ModeChangesByTable_carried :
    setup.CarriesOut (.reload .a (fields 0 0 0)) .a .reload (fields 0 0 0)
      ∧ setup.CarriesOut (.openPart .a (fields 0 0 0)) .a .openPart (fields 0 0 0) :=
  ⟨⟨by decide, by decide, by decide, by decide, by decide⟩,
    ⟨by decide, by decide, by decide, by decide, by decide⟩⟩
theorem witness_PortsKeepApart :
    service.CarriesOut (.closePart .a (fields 0 0 0)) .a .closePart (fields 0 0 0)
      ∧ (∀ h, service.record h = .free)
      ∧ leased.CarriesOut (.closePart .a (fields 0 0 0)) .a .closePart (fields 0 0 0)
      ∧ leased.record 0 ≠ .free
      ∧ leased.CarriesOut (.restart .a (fields 0 0 0)) .a .restart (fields 0 0 0) :=
  ⟨⟨by decide, by decide, by decide, by decide, by decide⟩, by decide +kernel,
    ⟨by decide, by decide, by decide, by decide, by decide⟩, by decide,
    ⟨by decide, by decide, by decide, by decide, by decide⟩⟩
theorem witness_PortsKeepApart_other (f : Fields) :
    framePort? (.frameCrcFail .b) = some .b
      ∧ ¬ leased.CarriesOut (.frameCrcFail .b) .b .closePart f
      ∧ ¬ leased.CarriesOut (.frameCrcFail .b) .b .restart f :=
  ⟨rfl, (by intro h; cases h.found), (by intro h; cases h.found)⟩

/-- Frames that are marked: heard with chip select high and with it low; BUSY; REPEAT. -/
theorem witness_PollAndFailedFramesOnlyMark :
    service.hears .a = true ∧ (after (.chipSelectFall .a) service).hears .a = true := by
  decide +kernel
theorem witness_BusyAndRepeatOnlyMark :
    let content : Content := ⟨16, fields 0 0 0⟩
    let used := service.onPort .a (fun ps => { ps with lastSeq := some true })
    content.code ≠ pollCode ∧ (reloading 0).hears .a = true ∧ ((reloading 0).port .a).slow ≠ none
      ∧ used.hears .a = true ∧ (used.port .a).slow = none
      ∧ (used.port .a).lastSeq = some content.fields.seq := by decide

/-- UnknownCodeIsRefused: codes next to Table 12-3's ranges, and the last. -/
theorem witness_UnknownCodeIsRefused :
    (∀ c ∈ ([2, 15, 22, 23, 27, 31, 34, 39, 43, 47, 53, 63, 67, 127] : List (BitVec 7)),
      (Instr.unknownCommand .a c (fields 0 0 0)).wellFormed = true)
      ∧ service.admits .a (fields 0 0 0) = true := by decide

/-- RoleAndModeRefusals: a LEASE port; each of the three modes of refusal. -/
theorem witness_RoleAndModeRefusals :
    service.admits .b (fields 0 0 0) = true ∧ (service.portRow .b).role = .lease
      ∧ setup.admits .a (fields 0 0 0) = true ∧ (setup.portRow .a).role = .full
      ∧ setup.mode ≠ .service ∧ service.mode ≠ .setup
      ∧ State.admits { State.reset with supplyLow := false } .a (fields 0 0 0) = true
      ∧ State.reset.mode = .loading := by decide +kernel

/-- The pins: chip select high, in cold reset and out of it; the four shifter states. -/
theorem witness_SelectFallStartsReply :
    (service.port .a).shifter = .idle ∧ service.inColdReset = false
      ∧ (State.reset.port .a).shifter = .idle ∧ State.reset.inColdReset = true
      ∧ (shifting.port .a).shifter ≠ .idle := by decide
theorem witness_ClockEdgesShift :
    (shifting.port .a).shifter = .shifting ⟨1, 1, 0, 2⟩
      ∧ (unanswered.port .a).shifter = .unanswered ∧ (abandoned.port .a).shifter = .abandoned
      ∧ (service.port .a).shifter = .idle := by decide
theorem witness_ReplyShiftsOut :
    (service.port .b).shifter = .idle ∧ service.inColdReset = false
      ∧ (List.replicate 56 true).length = 56 := by decide
theorem witness_PinsCarryNamedFrame :
    (service.port .a).shifter = .idle ∧ service.inColdReset = false
      ∧ framePort? (.frameCrcFail .a) = some .a ∧ ([true] : List Bool) ≠ []
      ∧ ([true] : List Bool).length ≠ 56
      ∧ (List.range 56).map (fun k => ((1 : BitVec 48) ++ (0 : BitVec 8)).getMsbD k) ≠ [] := by
  decide
theorem witness_ColdResetFramesAreNotJudged :
    framePort? (.frameCrcFail .a) = some .a ∧ (unanswered.port .a).shifter = .unanswered
      ∧ (abandoned.port .a).shifter = .abandoned ∧ (State.reset.port .a).shifter = .idle
      ∧ State.reset.inColdReset = true := by decide

/-- FrameContentRoundTrips, PackedValuesByBitPosition: values at the ends of their fields. -/
theorem witness_FrameContentRoundTrips :
    let r : ReplyRegister := ⟨127, true, .busy, ⟨.badRange, 48, 8191, 8191⟩⟩
    r.reply.handle < 64 ∧ r.reply.valueA < 8192 ∧ r.reply.valueB < 8192 := by decide
theorem witness_PackedValuesByBitPosition :
    let i : Image := ⟨47, .held ⟨23, 3, 3, 8191⟩ 7 none, 48, 48, 8191⟩
    i.recordRank ≤ 48 ∧ i.noticeRank ≤ 48 ∧ ∀ k, i.record.retries? = some k → k ≤ 7 :=
  ⟨by decide, by decide, fun k h => by cases h; decide⟩

/-- The budget: each outcome of a limit change, at committed equal to the limit and above it. -/
theorem witness_LimitRoomAndFit : leased.WaitingListsExact := leased_waiting
theorem witness_LimitChangeActs :
    let capped := leased.onRail 0 (fun a => { a with cap := 77 })
    let even := leased.onRail 0 (fun a => { a with cap := 78 })
    setup.mode ≠ .service ∧ leased.GrantOrdersExact
      ∧ (capped.rail 0).limit < (capped.rail 0).committed
      ∧ (even.rail 0).committed ≤ (even.rail 0).limit ∧ 77 < (even.rail 0).limit
      ∧ (even.rail 0).limit ≤ 78 :=
  ⟨by decide, leased_grants, by decide +kernel, by decide +kernel, by decide +kernel,
    by decide +kernel⟩
theorem witness_RevocationOrder :
    let capped := leased.onRail 0 (fun a => { a with cap := 60 })
    capped.GrantOrdersExact ∧ capped.NoticeOrdersExact ∧ capped.AttnFollowsOrders
      ∧ capped.ChannelsFollowRecords ∧ (capped.rail 0).limit < (capped.rail 0).committed :=
  ⟨by unfold State.GrantOrdersExact; decide +kernel, leased_notices, leased_attn, leased_channels,
    by decide +kernel⟩
theorem witness_ScanGrantsFromHead :
    let roomy := leased.onRail 0 (fun a => { a with nominal := 200 })
    roomy.mode = .service ∧ roomy.WaitingListsExact ∧ (roomy.scan 0).rail 0 ≠ roomy.rail 0 :=
  ⟨rfl, by unfold State.WaitingListsExact; decide +kernel, by decide +kernel⟩
theorem witness_EndingAndFreeing :
    leased.NoticeOrdersExact ∧ leased.AttnFollowsOrders ∧ leased.NoticesFit
      ∧ leased.ChannelsFollowRecords :=
  ⟨leased_notices, leased_attn, leased_fits, leased_channels⟩
theorem witness_EndingAndFreeing_records :
    (leased.record 0).booking? = some ⟨14, 0, 2, 40⟩ ∧ (leased.record 0).isEnded = false
      ∧ (leased.record 0).owedParty? = some ⟨.a, 2⟩ ∧ (leased.record 0).notice? = none
      ∧ (leased.record 6).booking? = some ⟨8, 1, 2, 15⟩ ∧ (leased.record 6).owedParty? = none
      ∧ (leased.record 4).booking? = some ⟨6, 0, 3, 5⟩
      ∧ (leased.record 4).notice? = some ⟨.revoked, ⟨.a, 2⟩⟩ := by decide +kernel
theorem witness_RailCommands :
    leased.takes .a .setCap (fields 3 0 0) = true ∧ leased.takes .b .readRail (fields 3 1 0) = true
      ∧ (fields 3 0 0).selector.toNat = (3 : Rail).val ∧ 3 < (fields 4 0 0).selector.toNat
      ∧ 1 < (fields 3 2 0).valueA.toNat := by decide +kernel
theorem witness_HealthFilterRuns :
    let shown := service.onRail 1 (fun a => { a with candidate := some ⟨.reduced, 5⟩ })
    let early := service.onRail 1 (fun a => { a with candidate := some ⟨.reduced, 4⟩ })
    let bare := service.onRail 1 (fun a => { a with filterTime := 0 })
    service.mode ≠ .loading ∧ State.reset.mode = .loading ∧ (service.rail 1).health = .normal
      ∧ (shown.rail 1).candidate = some ⟨.reduced, 5⟩ ∧ (shown.rail 1).filterTime ≤ 5
      ∧ 4 < (early.rail 1).filterTime ∧ (bare.rail 1).filterTime = 0
      ∧ (service.rail 1).candidate = none ∧ 0 < (service.rail 1).filterTime := by decide

/-- REQUEST: each refusal, at the ends of the ranges. -/
theorem witness_RequestRefusedInOrder :
    leased.takes .a .request (fields 24 1 1) = true ∧ 23 < (fields 24 1 1).selector.toNat
      ∧ (fields 23 1 1).selector.toNat = (23 : Output).val ∧ (leased.channel 23).barred = true
      ∧ (leased.channel 10).barred = false ∧ (leased.outputRow 10).ceiling < 61
      ∧ leased.covering 14 = some 0 ∧ (leased.record 0).holder? = some (.client ⟨.a, 2⟩)
      ∧ leased.covering 5 = some 1 ∧ (leased.record 1).holder? = some (.client ⟨.b, 4⟩) := by
  decide +kernel
theorem witness_RequestRefusedInOrder_covering :
    leased.CoversOnce ∧ leased.covering 14 = some 0 ∧ (leased.record 0).covers 14 = true :=
  ⟨leased_once, by decide +kernel⟩
theorem witness_RequestRefusedInOrder_quota :
    let s : State := { leased with shadow := { leased.shadow with
      portA := ⟨.good, ⟨.full, 4, 500⟩⟩ } }
    s.takes .a .request (fields 10 60 1) = true ∧ (s.portRow .a).quota ≤ s.counted .a
      ∧ s.covering 10 = none := by decide +kernel
theorem witness_RequestRefusedInOrder_full :
    fullTable.takes .a .request (fields 10 60 1) = true
      ∧ fullTable.counted .a < (fullTable.portRow .a).quota ∧ ∀ h, fullTable.record h ≠ .free := by
  decide +kernel
theorem witness_RequestRefusedInOrder_no_room :
    leased.takes .a .request (fields 10 60 1) = true
      ∧ leased.counted .a < (leased.portRow .a).quota ∧ leased.record 8 = .free
      ∧ leased.covering 10 = none ∧ leased.fits 0 2 60 = false ∧ leased.covering 3 = some 2
      ∧ (leased.record 2).booking? = some ⟨3, 0, 0, 20⟩
      ∧ (leased.record 2).holder? = some .device ∧ leased.fits 0 2 (21 - 20) = false := by
  decide +kernel
theorem witness_RequestGrantsAtOnce :
    service.takes .a .request (fields 0 60 1) = true ∧ (service.channel 0).barred = false
      ∧ 60 ≤ (service.outputRow 0).ceiling ∧ service.covering 0 = none
      ∧ service.counted .a < (service.portRow .a).quota ∧ service.record 0 = .free
      ∧ (∀ k, k < (0 : Handle) → service.record k ≠ .free) ∧ service.fits 0 2 60 = true := by
  decide +kernel
theorem witness_RequestEntersList :
    leased.WaitingListsExact ∧
    leased.takes .a .request { fields 10 60 1 with wait := true } = true
      ∧ (leased.channel 10).barred = false ∧ leased.covering 10 = none
      ∧ leased.counted .a < (leased.portRow .a).quota ∧ leased.record 8 = .free
      ∧ (∀ k, k < (8 : Handle) → leased.record k ≠ .free)
      ∧ leased.fits (leased.outputRow 10).rail 2 60 = false :=
  ⟨leased_waiting, by decide +kernel⟩

/-- A claim of a hold that owes a notice, and of a TRIPPED hold that owes none. -/
theorem witness_ClaimTakesOver :
    leased.takes .a .request (fields 3 20 1) = true ∧ leased.covering 3 = some 2
      ∧ (leased.record 2).holder? = some .device
      ∧ (leased.record 2).booking? = some ⟨3, 0, 0, 20⟩
      ∧ leased.counted .a < (leased.portRow .a).quota ∧ leased.record 8 = .free
      ∧ (∀ k, k < (8 : Handle) → leased.record k ≠ .free) := by decide +kernel
theorem witness_ClaimTakesOver_tripped :
    let left := leased.onRail 0 (fun a =>
      { a with committed := a.committed - 8, grantOrder := a.grantOrder.erase 5 })
    let gone := left.setRecord 5 .free
    leased.covering 7 = some 5 ∧ (leased.record 5).notice? = none
      ∧ (leased.record 5).booking? = some ⟨7, 0, 1, 8⟩ ∧ (leased.record 5).isTripped = true
      ∧ gone.record 5 = .free ∧ ∀ k, k < (5 : Handle) → gone.record k ≠ .free := by decide +kernel

/-- RELEASE, RENEW, RESIZE and ACK NOTICE: selectors 0, 49 and 127; each refusal; each state. -/
theorem witness_HandleNotHeldIsRefused :
    (∀ c ∈ [Command.release, .renew, .resize], leased.takes .a c (fields 127 0 0) = true)
      ∧ 48 < (fields 49 0 0).selector.toNat ∧ (fields 63 0 0).selector.toNat ≤ 63
      ∧ 63 < (fields 64 0 0).selector.toNat ∧ 63 < (fields 127 0 0).selector.toNat
      ∧ (fields 48 0 0).selector.toNat = (47 : Handle).number
      ∧ (leased.record 2).notice? = some ⟨.lapsedHeld, ⟨.a, 2⟩⟩
      ∧ (leased.record 2).holder? ≠ some (.client ⟨.a, 2⟩)
      ∧ (leased.record 1).holder? ≠ some (.client ⟨.a, 2⟩) := by decide +kernel
theorem witness_HandleNotHeldIsRefused_no_notice :
    (∀ n, (leased.record 1).notice? = some n → n.owedTo ≠ ⟨.a, 2⟩)
      ∧ ∀ n, (leased.record 47).notice? = some n → n.owedTo ≠ ⟨.a, 2⟩ :=
  ⟨owes_nobody (by decide) _, owes_nobody (by decide) _⟩
theorem witness_ReleaseFreesRecord :
    leased.takes .a .release (fields 1 0 0) = true
      ∧ (leased.record 0).holder? = some (.client ⟨.a, 2⟩)
      ∧ (leased.record 0).booking? = some ⟨14, 0, 2, 40⟩ := by decide +kernel
theorem witness_RenewRestartsCountdown :
    leased.takes .a .renew (fields 1 0 0) = true
      ∧ leased.takes .b .renew { fields 2 0 9 with tag := 4 } = true
      ∧ leased.record 0 = .granted ⟨14, 0, 2, 40⟩ ⟨.a, 2⟩ 1000 900 1 none
      ∧ leased.record 3 = .tripped ⟨4, 0, 2, 10⟩ ⟨.a, 2⟩ 700 650 0 (some ⟨.tripped, ⟨.a, 2⟩⟩)
      ∧ leased.record 1 = .waiting ⟨5, 0, 1, 60⟩ ⟨.b, 4⟩ 500 300 := by decide +kernel
theorem witness_ResizeChangesCurrent :
    leased.takes .a .resize (fields 1 61 0) = true ∧ (leased.outputRow 14).ceiling < 61
      ∧ (leased.record 0).isCommitting = true ∧ leased.fits 0 2 (41 - 40) = false
      ∧ leased.takes .b .resize { fields 8 11 0 with tag := 3 } = true
      ∧ leased.fits 1 0 (11 - 10) = true ∧ (leased.record 1).isWaiting = true := by decide +kernel
theorem witness_ResizeChangesCurrent_waiter :
    let resized := fun x => leased.setRecord 1 (.waiting ⟨5, 0, 1, x⟩ ⟨.b, 4⟩ 500 300)
    (((resized 33).scan 0).record 1).isWaiting = true
      ∧ (((resized 32).scan 0).record 1).isWaiting = false := by decide +kernel
theorem witness_ForceEndEndsRecord :
    leased.takes .a .forceEnd (fields 49 0 0) = true ∧ 48 < (fields 49 0 0).selector.toNat
      ∧ leased.record 47 = .free ∧ (leased.record 4).isEnded = true
      ∧ (leased.record 6).isEnded = false ∧ (leased.record 6).owedParty? = none
      ∧ (leased.record 0).owedParty? = some ⟨.a, 2⟩ := by decide +kernel
theorem witness_ReadingTheTable :
    leased.CoversOnce ∧ leased.takes .b .lookupOutput (fields 24 0 0) = true
      ∧ leased.takes .a .nextNotice (fields 0 0 0) = true ∧ 23 < (fields 24 0 0).selector.toNat
      ∧ (∀ h, (leased.record h).covers 0 = false) ∧ (leased.record 0).covers 14 = true
      ∧ (leased.port .b).noticeOrder = [] ∧ (leased.port .a).noticeOrder = [2, 3, 4] :=
  ⟨leased_once, by decide +kernel⟩
theorem witness_AckNoticeClears :
    leased.takes .a .ackNotice (fields 5 0 0) = true
      ∧ 48 < (fields 49 0 0).selector.toNat ∧ (fields 63 0 0).selector.toNat ≤ 63
      ∧ 63 < (fields 64 0 0).selector.toNat
      ∧ (leased.record 4).notice? = some ⟨.revoked, ⟨.a, 2⟩⟩ ∧ (leased.record 4).isEnded = true
      ∧ (leased.record 2).notice? = some ⟨.lapsedHeld, ⟨.a, 2⟩⟩
      ∧ (leased.record 2).isEnded = false ∧ (leased.record 0).notice? = none := by decide +kernel

/-- Expiries at a countdown of 0, under OFF and under HOLD. -/
def runOut (action : LapseAction) : State :=
  let row : Row OutputRow := ⟨.good, ⟨true, 0, 60, action, 1, 50⟩⟩
  let acting : State := { leased with shadow := (leased.shadow.setOutput 14 row).setOutput 4 row }
  ((acting.setRecord 0 (.granted ⟨14, 0, 2, 40⟩ ⟨.a, 2⟩ 1000 0 1 none)
    ).setRecord 1 (.waiting ⟨5, 0, 1, 60⟩ ⟨.b, 4⟩ 500 0)
    ).setRecord 3 (.tripped ⟨4, 0, 2, 10⟩ ⟨.a, 2⟩ 700 0 0 (some ⟨.tripped, ⟨.a, 2⟩⟩))

theorem witness_ExpiriesEndOrHold (action : LapseAction) :
    (runOut action).NoticeOrdersExact ∧ (runOut action).NoticesFit := by
  constructor
  · intro p; cases action <;> cases p <;> decide +kernel
  · unfold State.NoticesFit; cases action <;> decide +kernel
theorem witness_ExpiriesEndOrHold_records (action : LapseAction) :
    (runOut action).record 0 = .granted ⟨14, 0, 2, 40⟩ ⟨.a, 2⟩ 1000 0 1 none
      ∧ (runOut action).record 1 = .waiting ⟨5, 0, 1, 60⟩ ⟨.b, 4⟩ 500 0
      ∧ (runOut action).record 3
          = .tripped ⟨4, 0, 2, 10⟩ ⟨.a, 2⟩ 700 0 0 (some ⟨.tripped, ⟨.a, 2⟩⟩)
      ∧ ((runOut action).outputRow 14).lapse = action
      ∧ ((runOut action).outputRow 4).lapse = action := by cases action <;> decide +kernel

/-- Trips raised on a lease and on a hold, with and without a retry left; delays that have ended. -/
theorem witness_TripsAndRestarts :
    leased.NoticeOrdersExact ∧ leased.NoticesFit ∧ leased.CoversOnce
      ∧ (leased.channel 14).tripRaised = false ∧ (leased.record 0).covers 14 = true
      ∧ leased.record 0 = .granted ⟨14, 0, 2, 40⟩ ⟨.a, 2⟩ 1000 900 (0 + 1) none
      ∧ leased.record 6 = .held ⟨8, 1, 2, 15⟩ (0 + 1) none :=
  ⟨leased_notices, leased_fits, leased_once, by decide +kernel⟩
theorem witness_TripsAndRestarts_out :
    let spent := (leased.setRecord 0 (.granted ⟨14, 0, 2, 40⟩ ⟨.a, 2⟩ 1000 900 0 none)).setRecord 6
      (.held ⟨8, 1, 2, 15⟩ 0 none)
    let raised := (spent.onChannel 14 (fun c => { c with tripRaised := true })).onChannel 8
      (fun c => { c with tripRaised := true })
    (raised.channel 14).tripRaised = true ∧ (raised.channel 8).tripRaised = true
      ∧ raised.record 0 = .granted ⟨14, 0, 2, 40⟩ ⟨.a, 2⟩ 1000 900 0 none
      ∧ raised.record 6 = .held ⟨8, 1, 2, 15⟩ 0 none := by decide +kernel
theorem witness_TripsAndRestarts_ended :
    let s := (leased.onChannel 4 (fun c => { c with retryTimer := some 0 })).onChannel 7
      (fun c => { c with retryTimer := some 0 })
    (leased.channel 4).retryTimer ≠ some 0 ∧ (s.channel 4).retryTimer = some 0
      ∧ (s.record 3).covers 4 = true ∧ (s.channel 7).retryTimer = some 0
      ∧ s.record 5 = .deviceTripped ⟨7, 0, 1, 8⟩ 2 none ∧ (s.record 5).covers 7 = true := by
  decide +kernel
theorem witness_FaultEdgesRaiseTrips :
    (leased.channel 14).faultLow = false ∧ (leased.channel 14).state = .on
      ∧ (leased.channel 4).faultLow = false ∧ (leased.channel 4).state ≠ .on
      ∧ ((leased.onChannel 0 (fun c => { c with faultLow := true })).channel 0).faultLow = true := by
  decide +kernel

/-- CAPTURE at counts 1 and 16 and the last handles; FLIP and READ IMAGE at each state and part. -/
theorem witness_SnapshotCommands :
    service.takes .b .capture (fields 48 1 0) = true ∧ (fields 48 1 0).selector.toNat + 1 - 1 ≤ 48
      ∧ 48 < (fields 48 2 0).selector.toNat + 2 - 1
      ∧ (fields 33 16 0).selector.toNat + 16 - 1 ≤ 48 ∧ 16 < (fields 1 17 0).valueA.toNat
      ∧ (fields 48 1 0).selector.toNat = (47 : Handle).number ∧ (service.port .b).capture = .idle
      ∧ service.takes .b .flip (fields 0 0 0) = true
      ∧ service.takes .b .readImage (fields 0 3 0) = true
      ∧ 3 < (fields 0 4 0).valueA.toNat ∧ (service.port .b).front = none := by decide +kernel
theorem witness_SnapshotCommands_filled :
    let image : Image := ⟨47, .free, 0, 0, 7⟩
    let s := service.onPort .b (fun ps =>
      { ps with capture := .complete ⟨47, [image]⟩, front := some ⟨47, [image]⟩ })
    (s.port .b).capture = .complete ⟨47, image :: []⟩ ∧ [image].getLast? = some image
      ∧ (s.port .b).front = some ⟨47, [image]⟩ ∧ [image].length ≤ (fields 1 0 0).selector.toNat
      ∧ [image][(fields 0 3 0).selector.toNat]? = some image ∧ image.part 3 = some (0, 7) := by
  decide +kernel
theorem witness_ImageCopyAdvances :
    let s := service.onPort .b (fun ps => { ps with capture := .copying 46 2 [] })
    (s.port .b).capture = .copying 46 2 [] ∧ (46 : Handle).val = (46 : Handle).val + 0
      ∧ (service.port .b).capture = .idle := by decide
/-- ... ranks: second in a grant order, first in a waiting list, second in a notice order. -/
theorem witness_ImageCopyAdvances_ranks :
    (leased.rail 0).grantOrder = [0] ++ 2 :: [3, 5] ∧ (2 : Handle) ∉ ([0] : List Handle)
      ∧ (leased.record 2).isCommitting = true
      ∧ (leased.rail 0).waiting = [] ++ 1 :: [] ∧ (leased.record 1).isWaiting = true
      ∧ (leased.port .a).noticeOrder = [2] ++ 3 :: [4]
      ∧ (leased.record 3).notice? = some ⟨.tripped, ⟨.a, 2⟩⟩
      ∧ (leased.record 4).isWaiting = false ∧ (leased.record 4).isCommitting = false
      ∧ (leased.record 0).notice? = none := by decide +kernel

/-- The store: fields 0, 5, 12 and 13; rows 0, 29 and 30; a field of the row's kind and one not. -/
theorem witness_StagingAndReading :
    leased.takes .b .stageField (fields 12 8191 0) = true
      ∧ leased.takes .b .loadStage (fields 29 0 0) = true
      ∧ leased.takes .b .readRow (fields 0 5 0) = true
      ∧ (fields 12 0 0).selector.toNat = (12 : Fin 13).val ∧ 12 < (fields 13 0 0).selector.toNat
      ∧ (fields 29 0 0).selector.toNat = (29 : Fin 30).val ∧ 29 < (fields 30 0 0).selector.toNat
      ∧ (leased.shadow.row (RowId.ofFin 0)).field? 5 = some 50
      ∧ (leased.shadow.row (RowId.ofFin 0)).field? 6 = none := by decide +kernel
theorem witness_RowFieldsAndRanges :
    (23 : Fin 30).val = (23 : Output).val ∧ (24 : Fin 30).val = 24 + (0 : Rail).val
      ∧ (27 : Fin 30).val = 24 + (3 : Rail).val := by decide
theorem witness_WriteRowStartsWrite :
    setup.takes .a .writeRow (fields 29 0 0) = true ∧ 29 < (fields 30 0 0).selector.toNat
      ∧ setup.write = none ∧ fieldInRange 5 0 0 = false ∧ fieldInRange 5 1 0 = true
      ∧ fieldInRange 12 8191 0 = true ∧ (setup.portRow .a).role = .full
      ∧ (setup.shadow.port .a).cond = .good ∧ (setup.portRow .b).role = .lease := by
  decide +kernel
theorem witness_WriteRowStartsWrite_busy :
    let s : State := { setup with write := some ⟨.b, .port .b ⟨.full, 1, 1⟩⟩ }
    s.takes .a .writeRow (fields 0 0 0) = true ∧ s.write ≠ none
      ∧ s.takes .a .reload (fields 0 0 0) = true ∧ s.takes .a .openPart (fields 0 0 0) = true := by
  decide +kernel
theorem witness_WriteRowCompletes :
    let w : RowWrite := .rail 3 ⟨1, 2, 3, 4⟩
    let s := (writing w).onRail 3 (fun a => { a with candidate := some ⟨.reduced, 4⟩ })
    service.write = none ∧ s.write = some ⟨.a, w⟩ ∧ w.id = .rail 3
      ∧ (s.rail 3).candidate = some ⟨.reduced, 4⟩
      ∧ (s.shadow.write w).rails.get 3 = ⟨.good, ⟨1, 2, 3, 4⟩⟩ := by decide +kernel
theorem witness_LoadsReadTheArray :
    setup.takes .a .reload (fields 0 0 0) = true ∧ setup.write = none ∧ setup.load = none
      ∧ (reloading 28).load = some 28 ∧ (28 : Fin 30).val < 29 ∧ (reloading 29).load = some 29 := by
  decide +kernel

/-- The modes: OPEN, CLOSE on an empty table and on one that is not, RESTART, IDENTIFY, cold reset. -/
theorem witness_OpenAndClose :
    setup.takes .a .openPart (fields 0 0 0) = true ∧ setup.write = none
      ∧ service.takes .a .closePart (fields 0 0 0) = true ∧ (∀ h, service.record h = .free)
      ∧ leased.takes .a .closePart (fields 0 0 0) = true ∧ leased.record 0 ≠ .free := by
  decide +kernel
theorem witness_RestartKeepsHolds :
    leased.takes .a .restart (fields 0 0 0) = true ∧ leased.Sound :=
  ⟨by decide +kernel, leased_sound⟩
theorem witness_IdentifyAndSetPatience :
    leased.admits .b (fields 0 0 0) = true ∧ leased.takes .b .setPatience (fields 0 1 0) = true
      ∧ (fields 0 0 0).valueA = 0 ∧ (fields 0 1 0).valueA ≠ 0 := by decide +kernel
theorem witness_ColdResetSetsEveryBlock :
    leased.write = none ∧ (writing (.rail 0 ⟨1, 1, 1, 1⟩)).write = some ⟨.a, .rail 0 ⟨1, 1, 1, 1⟩⟩
      ∧ State.reset.inColdReset = true ∧ leased.inColdReset = false := by decide +kernel

end Sys2Proof.Tests
end

section
/-! PROOFS. Reading the Lease Table, and REQUEST for an output without a lease. -/

namespace Sys2Proof.Machine

/-! ## Finding outputs and records -/

/-- A selector of 0 to 23 names the output of its number (R10). -/
theorem outputOf_eq_some {sel : BitVec 7} {o : Output} (h : sel.toNat = o.val) :
    outputOf sel = some o := by
  have hlt : sel.toNat < 24 := h ▸ o.isLt
  simp only [outputOf, hlt, dif_pos, Option.some.injEq]
  exact Fin.ext h

/-- A selector above 23 names no output (R10). -/
theorem outputOf_eq_none {sel : BitVec 7} (h : 23 < sel.toNat) : outputOf sel = none := by
  simp only [outputOf, dif_neg (show ¬ sel.toNat < 24 by omega)]

/-- Where outputs are covered once, the record that covers an output is the one found (R2). -/
theorem State.CoversOnce.covering_eq_some {s : State} (hs : s.CoversOnce) {o : Output} {h : Handle}
    (hc : (s.record h).covers o = true) : s.covering o = some h := by
  cases hf : s.covering o with
  | none => simp [State.covering_eq_none.1 hf h] at hc
  | some k => rw [hs k h o (State.covering_covers hf) hc]

/-- The first FREE record is the lowest FREE one (R4). -/
theorem State.lowestFree_of_free {s : State} {h : Handle} (hfree : s.record h = .free)
    (hlow : ∀ k, k < h → s.record k ≠ .free) : s.lowestFree = some h :=
  State.lowestFree_eq_some.2
    ⟨Record.isFree_iff.2 hfree,
      fun k hk => Bool.eq_false_iff.2 (mt Record.isFree_iff.1 (hlow k hk))⟩

/-- A frame taken at step 9 comes to what its command answers at its block. -/
theorem State.takes_exec_of_run {s t : State} {p : Port} {c : Command} {f : Fields} {reply : Reply}
    (h : s.takes p c f = true) (hc : c ≠ .restart) (hrun : s.run c p f = (t, reply)) :
    exec (c.frame p f) s = .next (t.replied p c.code f reply) := by
  rw [State.takes_exec h hc, hrun]

/-! ## LOOKUP OUTPUT and NEXT NOTICE -/

/-- Value B of LOOKUP OUTPUT for an output without a lease is its barred flag alone. -/
theorem packLookup_free (barred : Bool) : packLookup .free barred = if barred then 1 else 0 := by
  cases barred <;> rfl

/-- LOOKUP OUTPUT of an output without a lease (R19). -/
theorem cmdLookupOutput_uncovered {s : State} (p : Port) {f : Fields} {o : Output}
    (ho : f.selector.toNat = o.val) (hc : s.covering o = none) :
    cmdLookupOutput p f s = (s, ⟨.done, 0, 0, if (s.channel o).barred then 1 else 0⟩) := by
  simp only [cmdLookupOutput, outputOf_eq_some ho, hc, packLookup_free]

/-- LOOKUP OUTPUT of an output with a lease (R19). -/
theorem cmdLookupOutput_covered {s : State} (p : Port) {f : Fields} {o : Output} {h : Handle}
    {b : Booking} (ho : f.selector.toNat = o.val) (hc : s.covering o = some h)
    (hb : (s.record h).booking? = some b) :
    cmdLookupOutput p f s =
      (s, ⟨.done, h.number, b.current, packLookup (s.record h) (s.channel o).barred⟩) := by
  simp only [cmdLookupOutput, outputOf_eq_some ho, hc, hb, Option.map_some, Option.getD_some]

/-- LOOKUP OUTPUT of a selector that names no output (R10). -/
theorem cmdLookupOutput_badOutput {s : State} (p : Port) {f : Fields} (h : 23 < f.selector.toNat) :
    cmdLookupOutput p f s = (s, ⟨.badOutput, 0, 0, 0⟩) := by
  simp only [cmdLookupOutput, outputOf_eq_none h, State.refuse, Reply.only]

/-- NEXT NOTICE of a port that is owed none (R108). -/
theorem cmdNextNotice_none {s : State} {p : Port} (f : Fields) (h : (s.port p).noticeOrder = []) :
    cmdNextNotice p f s = (s, ⟨.noNotice, 0, 0, 0⟩) := by
  simp only [cmdNextNotice, h, State.refuse, Reply.only]

/-- NEXT NOTICE reports the first notice of the port's order and the order's length (R108). -/
theorem cmdNextNotice_first {s : State} {p : Port} (f : Fields) {h : Handle} {rest : List Handle}
    {n : Notice} {b : Booking} (ho : (s.port p).noticeOrder = h :: rest)
    (hn : (s.record h).notice? = some n) (hb : (s.record h).booking? = some b) :
    cmdNextNotice p f s = (s, ⟨.done, h.number, n.reason.number * 16 + n.owedTo.tag.val,
      b.output.val * 256 + (s.port p).noticeOrder.length⟩) := by
  simp only [cmdNextNotice, ho, hn, hb, packNotice, packNoticeCount, List.length_cons]

/-- Settles O44: neither command writes its block, so each reply is read off the case. -/
theorem readingTheTable : Obligations.ReadingTheTable := by
  refine ⟨fun s p f ht => ⟨fun hsel => ?_, fun o ho => ⟨fun hnone => ?_, ?_⟩⟩,
    fun s p f ht => ⟨fun hnone => ?_, ?_⟩⟩
  · exact State.takes_exec_of_run ht (by decide) (cmdLookupOutput_badOutput p hsel)
  · exact State.takes_exec_of_run ht (by decide)
      (cmdLookupOutput_uncovered p ho (State.covering_eq_none.2 hnone))
  · intro h b honce hcov hb
    exact State.takes_exec_of_run ht (by decide)
      (cmdLookupOutput_covered p ho (honce.covering_eq_some hcov) hb)
  · exact State.takes_exec_of_run ht (by decide) (cmdNextNotice_none f hnone)
  · intro h rest n b ho hn hb
    exact State.takes_exec_of_run ht (by decide) (cmdNextNotice_first f ho hn hb)

/-! ## REQUEST for an uncovered output -/

/-- A REQUEST that Table 2-4 refuses in none of its steps 1 to 6, for an output without a lease,
comes to steps 8 to 10 on the lowest FREE record (R10 to R13). -/
theorem cmdRequest_uncovered {s : State} {p : Port} {f : Fields} {o : Output} {h : Handle}
    (ho : f.selector.toNat = o.val) (hbar : (s.channel o).barred = false)
    (hpos : 0 < f.valueA.toNat) (hceil : f.valueA.toNat ≤ (s.outputRow o).ceiling)
    (hterm : 0 < f.valueB.toNat) (hcov : s.covering o = none)
    (hquota : s.counted p < (s.portRow p).quota) (hfree : s.lowestFree = some h) :
    cmdRequest p f s = s.requestNew p f o h := by
  have hvalues : ¬ (f.valueA.toNat = 0 ∨ (s.outputRow o).ceiling < f.valueA.toNat
      ∨ f.valueB.toNat = 0) := by omega
  simp only [cmdRequest, outputOf_eq_some ho, hbar, Bool.false_eq_true, if_false, if_neg hvalues,
    hcov, State.requestAdmit, if_neg (Nat.not_le.2 hquota), hfree]

/-- Step 8 of Table 2-4: the grant of a request that fits (R14). -/
theorem State.requestNew_fits {s : State} {p : Port} {f : Fields} {o : Output} {h : Handle}
    (hfits : s.fits (s.outputRow o).rail f.cls f.valueA.toNat = true) :
    s.requestNew p f o h =
      ((((s.setRecord h (s.grantedRecord p f (s.asked f o))).joinGrants h (s.asked f o)).onChannel o
        Channel.turnOn).countChange, ⟨.granted, h.number, f.valueA.toNat, 0⟩) :=
  if_pos hfits

/-- Settles O36: steps 1 to 7 of Table 2-4 let the request through, and step 8 grants it. -/
theorem requestGrantsAtOnce : Obligations.RequestGrantsAtOnce := by
  intro s p f o h ht ho hbar hpos hceil hterm hcov hquota hfree hlow hfits
  have hrun : s.run .request p f = s.requestNew p f o h :=
    cmdRequest_uncovered ho hbar hpos hceil hterm hcov hquota (State.lowestFree_of_free hfree hlow)
  exact State.takes_exec_of_run ht (by decide) (hrun.trans (State.requestNew_fits hfits))

/-! ## The waiting lists -/

/-- A change of an account is what it makes of the account that stands. -/
theorem State.onRail_congr {s : State} {r : Rail} {f g : Account → Account}
    (h : f (s.rail r) = g (s.rail r)) : s.onRail r f = s.onRail r g := by
  simp only [State.onRail, h]

/-- A new waiter comes before the first waiter of a lower-priority class (R49). -/
theorem State.placeWaiter_eq (s : State) (h : Handle) (c : LeaseClass) (l : List Handle) :
    s.placeWaiter h c l = l.takeWhile (fun x => !(s.record x).waitsBehind c)
      ++ h :: l.dropWhile (fun x => !(s.record x).waitsBehind c) := by
  induction l with
  | nil => rfl
  | cons x xs ih => cases hx : (s.record x).waitsBehind c <;> simp [State.placeWaiter, hx, ih]

/-- A handle is on a waiting list when its record is WAITING and of the rail (R48). -/
theorem State.WaitingListsExact.mem_iff {s : State} (hs : s.WaitingListsExact) {r : Rail}
    {x : Handle} : x ∈ (s.rail r).waiting ↔
      (s.record x).isWaiting = true ∧ (s.record x).onRail r = true := (hs r).2.1 x

/-- A waiting list is ordered by class (R48). -/
theorem State.WaitingListsExact.ordered {s : State} (hs : s.WaitingListsExact) (r : Rail) :
    (s.rail r).waiting.Pairwise (fun x y => (s.record x).classLe (s.record y) = true) := (hs r).2.2

/-- A handle on a waiting list is of a WAITING record with a booking (R48). -/
theorem State.WaitingListsExact.waiter {s : State} (hs : s.WaitingListsExact) {r : Rail}
    {x : Handle} (hx : x ∈ (s.rail r).waiting) :
    (s.record x).isWaiting = true ∧ ∃ b, (s.record x).booking? = some b := by
  obtain ⟨hw, hr⟩ := hs.mem_iff.1 hx
  obtain ⟨b, hb, -⟩ := (Option.any_eq_true _ _).1 hr
  exact ⟨hw, b, hb⟩

/-- A waiter of a rail is behind class `c` exactly when its own class is of lower priority. -/
theorem Record.waitsBehind_iff {r : Record} {b : Booking} {c : LeaseClass} (hw : r.isWaiting = true)
    (hb : r.booking? = some b) : r.waitsBehind c = true ↔ c < b.cls := by
  simp [Record.waitsBehind, hw, hb]

/-- The waiters a new one is placed behind are of its class or of higher priority (R49). -/
theorem State.WaitingListsExact.cls_ahead {s : State} (hs : s.WaitingListsExact) {r : Rail}
    {c : LeaseClass} {x : Handle}
    (hx : x ∈ (s.rail r).waiting.takeWhile (fun x => !(s.record x).waitsBehind c)) :
    ∃ b, (s.record x).booking? = some b ∧ b.cls ≤ c := by
  obtain ⟨hw, b, hb⟩ := hs.waiter ((List.takeWhile_sublist _).subset hx)
  have hnot : ¬ (s.record x).waitsBehind c = true := by simpa using List.mem_takeWhile_imp hx
  exact ⟨b, hb, not_lt.1 fun hlt => hnot ((Record.waitsBehind_iff hw hb).2 hlt)⟩

/-- The waiters a new one is placed before are of lower priority: the first of them is, and the list
is ordered by class (R48, R49). -/
theorem State.WaitingListsExact.cls_behind {s : State} (hs : s.WaitingListsExact) {r : Rail}
    {c : LeaseClass} {x : Handle}
    (hx : x ∈ (s.rail r).waiting.dropWhile (fun x => !(s.record x).waitsBehind c)) :
    ∃ b, (s.record x).booking? = some b ∧ c < b.cls := by
  obtain ⟨hwx, bx, hbx⟩ := hs.waiter ((List.dropWhile_sublist _).subset hx)
  refine ⟨bx, hbx, ?_⟩
  cases hd : (s.rail r).waiting.dropWhile (fun x => !(s.record x).waitsBehind c) with
  | nil => simp [hd] at hx
  | cons y ys =>
    have hsub : (y :: ys).Sublist (s.rail r).waiting := hd ▸ List.dropWhile_sublist _
    obtain ⟨hwy, b, hby⟩ := hs.waiter (hsub.subset List.mem_cons_self)
    have hy : c < b.cls := by
      have hfirst := List.head_dropWhile_not (fun x => !(s.record x).waitsBehind c)
        (l := (s.rail r).waiting) (by simp [hd])
      simp only [hd, List.head_cons, Bool.not_eq_false'] at hfirst
      exact (Record.waitsBehind_iff hwy hby).1 hfirst
    rw [hd] at hx
    rcases List.mem_cons.1 hx with rfl | hx
    · rw [hby] at hbx; cases hbx; exact hy
    · have hle := (List.pairwise_cons.1 ((hs.ordered r).sublist hsub)).1 x hx
      simp only [Record.classLe, hby, hbx, Option.all_some, decide_eq_true_eq] at hle
      exact lt_of_lt_of_le hy hle

/-- The rank of a handle behind others is their number plus one (R48). -/
theorem rankIn_append_cons {ahead behind : List Handle} {h : Handle} (hh : h ∉ ahead) :
    rankIn (ahead ++ h :: behind) h = ahead.length + 1 := by
  simp [rankIn, List.idxOf_append_of_notMem hh]

/-- Step 9 of Table 2-4: a request that does not fit and may wait enters its rail's list, with its
place there as its arrival rank (R15, R57). -/
theorem State.requestNew_waits {s : State} {p : Port} {f : Fields} {o : Output} {h : Handle}
    {ahead behind : List Handle}
    (hfits : s.fits (s.outputRow o).rail f.cls f.valueA.toNat = false) (hwait : f.wait = true)
    (hplace : s.placeWaiter h f.cls (s.rail (s.outputRow o).rail).waiting = ahead ++ h :: behind)
    (hh : h ∉ ahead) :
    s.requestNew p f o h =
      (((s.setRecord h (.waiting (s.asked f o) (clientOf p f) f.valueB.toNat
          (s.port p).patience)).onRail (s.outputRow o).rail (fun a =>
            { a with waiting := ahead ++ h :: behind })).countChange,
        ⟨.waiting, h.number, f.valueA.toNat, ahead.length + 1⟩) := by
  have henter : s.enterList h (s.asked f o) =
      s.onRail (s.outputRow o).rail (fun a => { a with waiting := ahead ++ h :: behind }) := by
    refine State.onRail_congr ?_
    simp only [State.asked, hplace]
  have hfits' : s.fits (s.asked f o).rail (s.asked f o).cls (s.asked f o).current = false := hfits
  have hrank : ((s.onRail (s.outputRow o).rail (fun a => { a with waiting := ahead ++ h :: behind })
      ).setRecord h (.waiting (s.asked f o) (clientOf p f) f.valueB.toNat (s.port p).patience)
      ).recordRank h = ahead.length + 1 := by
    simp [State.recordRank, Record.booking?, Record.isWaiting, State.asked,
      rankIn_append_cons hh]
  simp only [State.requestNew, hfits', Bool.false_eq_true, if_false, hwait, if_true, henter, hrank]
  rfl

/-- Settles O37: steps 1 to 8 of Table 2-4 pass the request on, and step 9 places it before the
first waiter of a lower-priority class. -/
theorem requestEntersList : Obligations.RequestEntersList := by
  intro s p f o h ht hexact ho hbar hpos hceil hterm hcov hquota hfree hlow hfits hwait
  have hnotin : h ∉ (s.rail (s.outputRow o).rail).waiting := fun hin => by
    simpa [hfree, Record.isWaiting] using (hexact.waiter hin).1
  have hrun : s.run .request p f = s.requestNew p f o h :=
    cmdRequest_uncovered ho hbar hpos hceil hterm hcov hquota (State.lowestFree_of_free hfree hlow)
  have hplaced := State.requestNew_waits (p := p) (o := o) hfits hwait (s.placeWaiter_eq h f.cls _)
    (fun hin => hnotin ((List.takeWhile_sublist _).subset hin))
  exact ⟨_, _, List.takeWhile_append_dropWhile.symm, fun _ => hexact.cls_ahead,
    fun _ => hexact.cls_behind, State.takes_exec_of_run ht (by decide) (hrun.trans hplaced)⟩

end Sys2Proof.Machine
end

section
/-! PROOFS. RESTART: record by record at the Lease Table, then the accounts and the ports. -/

namespace Sys2Proof.Machine

/-! ## RESTART at the Lease Table (R24, Table 2-5) -/

/-- What RESTART leaves of a record under a shadow (Table 2-5): a committing record whose output's
action is HOLD, and a device-held one, pass to DEVICE without a notice; every other is freed. -/
def Profile.keptRecord (shadow : Profile) : Record → Record
  | .granted b _ _ _ k _ =>
    if (shadow.outputs.get b.output).vals.lapse = .hold then .held b k none else .free
  | .tripped b _ _ _ k _ =>
    if (shadow.outputs.get b.output).vals.lapse = .hold then .deviceTripped b k none else .free
  | .deviceTripped b k _ => .deviceTripped b k none
  | .held b k _ => .held b k none
  | _ => .free

/-- A record that RESTART does not free was committing and stays so, on its own booking, under
DEVICE. -/
theorem Profile.keptRecord_cases (shadow : Profile) (x : Record) :
    shadow.keptRecord x = .free ∨
      x.isCommitting = true ∧ (shadow.keptRecord x).isCommitting = true
        ∧ (shadow.keptRecord x).booking? = x.booking?
        ∧ (shadow.keptRecord x).isDeviceHeld = true := by
  cases x with
  | free | waiting | ended => exact .inl rfl
  | deviceTripped | held =>
    refine .inr ⟨rfl, rfl, rfl, ?_⟩
    simp [Profile.keptRecord, Record.isDeviceHeld, Record.holder?]
  | granted b | tripped b =>
    simp only [Profile.keptRecord]
    split
    · exact .inr ⟨rfl, rfl, rfl, by simp [Record.isDeviceHeld, Record.holder?]⟩
    · exact .inl rfl

/-- RESTART leaves a FREE record FREE. -/
@[simp] theorem Profile.keptRecord_free (shadow : Profile) : shadow.keptRecord .free = .free := rfl

/-- Whether RESTART turns off the channel of output `o` for this record: it drives the output and is
freed (R87, R101). -/
def Profile.cutsOff (shadow : Profile) (x : Record) (o : Output) : Bool :=
  x.isCommitting && x.covers o && (shadow.keptRecord x).isFree

/-- A committing record is not FREE. -/
theorem Record.isFree_eq_false_of_isCommitting {x : Record} (h : x.isCommitting = true) :
    x.isFree = false := by
  cases x with
  | free => cases h
  | _ => rfl

/-! ### The grant orders -/

theorem State.GrantOrdersExact.nodup {s : State} (hs : s.GrantOrdersExact) (r : Rail) :
    (s.rail r).grantOrder.Nodup := (hs r).1

/-- A handle is on a grant order when its record is committing and of the rail (R32). -/
theorem State.GrantOrdersExact.mem_iff {s : State} (hs : s.GrantOrdersExact) {r : Rail}
    {h : Handle} : h ∈ (s.rail r).grantOrder ↔
      (s.record h).isCommitting = true ∧ (s.record h).onRail r = true := (hs r).2.1 h

/-- Committed is the sum of the currents on the grant order (R28). -/
theorem State.GrantOrdersExact.committed_eq {s : State} (hs : s.GrantOrdersExact) (r : Rail) :
    (s.rail r).committed =
      ((s.rail r).grantOrder.map (fun h => (s.record h).currentOr0)).sum := (hs r).2.2

/-- No record on a grant order is FREE. -/
theorem State.GrantOrdersExact.isFree_eq_false {s : State} (hs : s.GrantOrdersExact) {r : Rail}
    {h : Handle} (hh : h ∈ (s.rail r).grantOrder) : (s.record h).isFree = false :=
  Record.isFree_eq_false_of_isCommitting (hs.mem_iff.1 hh).1

/-! ### What giving up a place and a notice reads as -/

@[simp] theorem State.dropNotice_record (s : State) (h k : Handle) (n : Option Notice) :
    (s.dropNotice h n).record k = s.record k := by
  cases n <;> simp [State.dropNotice]

@[simp] theorem State.dropNotice_rail (s : State) (h : Handle) (n : Option Notice) (r : Rail) :
    (s.dropNotice h n).rail r = s.rail r := by
  cases n <;> simp [State.dropNotice]

@[simp] theorem State.dropNotice_channel (s : State) (h : Handle) (n : Option Notice) (o : Output) :
    (s.dropNotice h n).channel o = s.channel o := by
  cases n <;> simp [State.dropNotice]

@[simp] theorem State.withdraw_record (s : State) (h k : Handle) :
    (s.withdraw h).record k = s.record k := by
  unfold State.withdraw
  repeat' split
  all_goals simp [State.leaveGrants, State.leaveList]

/-- A record that gives up what it holds turns off the channel it drives, if it is committing. -/
theorem State.withdraw_channel (s : State) (h : Handle) (o : Output) :
    (s.withdraw h).channel o =
      if (s.record h).isCommitting = true ∧ (s.record h).covers o = true then
        (s.channel o).turnOff
      else s.channel o := by
  cases hb : (s.record h).booking? with
  | none => simp [State.withdraw, Record.covers, hb]
  | some b =>
    simp only [State.withdraw, hb, Record.covers]
    split
    · next hc =>
      simp only [State.onChannel_channel, hc, Bool.or_true, Option.any_some, true_and,
        decide_eq_true_eq, Bool.true_and]
      split
      · next ho => simp [ho, State.leaveGrants]
      · simp [State.leaveGrants]
    · next hc =>
      split
      · simp [hc, State.leaveList]
      · simp [hc]

/-- A record that gives up what it holds leaves the grant orders, and committed stays the sum of the
currents on them (R28, R32). -/
theorem State.GrantOrdersExact.withdraw_rail {s : State} (hs : s.GrantOrdersExact) (h : Handle)
    (r : Rail) :
    ((s.withdraw h).rail r).grantOrder = (s.rail r).grantOrder.erase h
      ∧ ((s.withdraw h).rail r).committed =
        (((s.rail r).grantOrder.erase h).map (fun k => (s.record k).currentOr0)).sum := by
  have hsum := hs.committed_eq r
  by_cases hin : h ∈ (s.rail r).grantOrder
  · obtain ⟨hc, hr⟩ := hs.mem_iff.1 hin
    obtain ⟨b, hb, hbr⟩ := (Option.any_eq_true _ _).1 hr
    simp only [decide_eq_true_eq] at hbr
    subst hbr
    have hcur : (s.record h).currentOr0 = b.current := by simp [Record.currentOr0, hb]
    have herase := List.sum_map_erase (fun k => (s.record k).currentOr0) hin
    simp only [State.withdraw, hb, hc, if_true, State.leaveGrants, State.onChannel_rail,
      State.onRail_rail_same, true_and]
    omega
  · rw [List.erase_of_not_mem hin, ← hsum]
    cases hb : (s.record h).booking? with
    | none => simp [State.withdraw, hb]
    | some b =>
      simp only [State.withdraw, hb]
      split
      · next hc =>
        have hne : r ≠ b.rail := fun he => hin (hs.mem_iff.2 ⟨hc, by simp [Record.onRail, hb, he]⟩)
        simp [State.leaveGrants, State.onRail_rail_ne, hne]
      · split
        · simp only [State.leaveList, State.onRail_rail]
          split
          · next he => simp [he]
          · simp
        · simp

/-! ### One record -/

/-- A channel turned off twice is turned off once (R87). -/
theorem Channel.turnOff_turnOff (c : Channel) : c.turnOff.turnOff = c.turnOff := by
  cases hc : c.state <;> simp [Channel.turnOff, hc]

/-- Writing a record that stands changes nothing. -/
theorem State.setRecord_self {s : State} {h : Handle} {x : Record} (hx : s.record h = x) :
    s.setRecord h x = s := by
  subst hx
  simp [State.setRecord, State.record, Vector.get_eq_getElem]

/-- RESTART over one record: a record it frees gives up what it holds, every record its notice. -/
theorem State.restartRecord_eq (s : State) (h : Handle) :
    s.restartRecord h =
      ((if s.shadow.keptRecord (s.record h) = .free then s.withdraw h else s).dropNotice h
        (s.record h).notice?).setRecord h (s.shadow.keptRecord (s.record h)) := by
  cases hx : s.record h with
  | free =>
    simp [State.restartRecord, hx, State.withdraw, Record.booking?, State.dropNotice,
      Record.notice?, State.setRecord_self hx]
  | waiting | ended =>
    simp [State.restartRecord, hx, State.freeRecord, Profile.keptRecord, Record.notice?]
  | deviceTripped | held => simp [State.restartRecord, hx, Profile.keptRecord, Record.notice?]
  | granted b c t d k n | tripped b c t d k n =>
    cases hl : (s.shadow.outputs.get b.output).vals.lapse <;>
      simp [State.restartRecord, hx, State.outputRow, hl, State.freeRecord, Profile.keptRecord,
        Record.notice?]

theorem State.restartRecord_record (s : State) (h k : Handle) :
    (s.restartRecord h).record k =
      if h = k then s.shadow.keptRecord (s.record k) else s.record k := by
  rw [State.restartRecord_eq, State.setRecord_record]
  split
  · next he => rw [he]
  · simp [apply_ite (fun t : State => t.record k)]

/-- RESTART over one record turns off the channel of a committing record it frees. -/
theorem State.restartRecord_channel (s : State) (h : Handle) (o : Output) :
    (s.restartRecord h).channel o =
      if s.shadow.cutsOff (s.record h) o then (s.channel o).turnOff else s.channel o := by
  simp only [State.restartRecord_eq, State.setRecord_channel, State.dropNotice_channel,
    Profile.cutsOff, Bool.and_eq_true, Record.isFree_iff]
  by_cases hfree : s.shadow.keptRecord (s.record h) = .free
  · simp [hfree, State.withdraw_channel]
  · simp [hfree]

theorem State.restartRecord_tableOnly (s : State) (h : Handle) :
    s.TableOnly (s.restartRecord h) := by
  rw [State.restartRecord_eq]
  refine (State.TableOnly.trans ?_ (State.dropNotice_tableOnly _ h _)).trans
    (State.setRecord_tableOnly _ h _)
  split
  · exact s.withdraw_tableOnly h
  · exact .refl s

/-- RESTART over one record keeps on the grant orders exactly the records it does not free. -/
theorem State.GrantOrdersExact.restartRecord_grantOrder {s : State} (hs : s.GrantOrdersExact)
    (h : Handle) (r : Rail) :
    ((s.restartRecord h).rail r).grantOrder =
      (s.rail r).grantOrder.filter (fun k => !((s.restartRecord h).record k).isFree) := by
  simp only [State.restartRecord_record]
  simp only [State.restartRecord_eq, State.setRecord_rail, State.dropNotice_rail]
  by_cases hfree : s.shadow.keptRecord (s.record h) = .free
  · rw [if_pos hfree, (hs.withdraw_rail h r).1, (hs.nodup r).erase_eq_filter]
    refine List.filter_congr fun k hk => ?_
    by_cases he : h = k
    · subst he; simp [hfree, Record.isFree]
    · simp [he, Ne.symm he, hs.isFree_eq_false hk]
  · rw [if_neg hfree]
    refine (List.filter_eq_self.2 fun k hk => ?_).symm
    by_cases he : h = k
    · subst he; simpa [← Record.isFree_iff] using hfree
    · simp [he, hs.isFree_eq_false hk]

/-- RESTART over one record commits what the records on its grant orders hold (R28). -/
theorem State.GrantOrdersExact.restartRecord_committed {s : State} (hs : s.GrantOrdersExact)
    (h : Handle) (r : Rail) :
    ((s.restartRecord h).rail r).committed =
      (((s.restartRecord h).rail r).grantOrder.map (fun k => (s.record k).currentOr0)).sum := by
  simp only [State.restartRecord_eq, State.setRecord_rail, State.dropNotice_rail]
  split
  · rw [(hs.withdraw_rail h r).1, (hs.withdraw_rail h r).2]
  · exact hs.committed_eq r

/-- RESTART frees a record, or leaves it committing or not, with its booking. -/
theorem State.restartRecord_record_cases (s : State) (h k : Handle) :
    (s.restartRecord h).record k = .free ∨
      ((s.restartRecord h).record k).isCommitting = (s.record k).isCommitting
        ∧ ((s.restartRecord h).record k).booking? = (s.record k).booking? := by
  rw [State.restartRecord_record]
  split
  · rcases s.shadow.keptRecord_cases (s.record k) with hfree | ⟨hc, hc', hb, -⟩
    · exact .inl hfree
    · exact .inr ⟨hc'.trans hc.symm, hb⟩
  · exact .inr ⟨rfl, rfl⟩

/-- RESTART over one record keeps the grant orders exact (R28, R32). -/
theorem State.GrantOrdersExact.restartRecord {s : State} (hs : s.GrantOrdersExact) (h : Handle) :
    (s.restartRecord h).GrantOrdersExact := by
  intro r
  have horder := hs.restartRecord_grantOrder h r
  refine ⟨horder ▸ (hs.nodup r).filter _, fun k => ?_, ?_⟩
  · rw [horder, List.mem_filter, hs.mem_iff]
    rcases s.restartRecord_record_cases h k with hfree | ⟨hc, hb⟩
    · simp [hfree, Record.isFree, Record.isCommitting]
    · simp only [Record.onRail, hc, hb]
      refine ⟨And.left, fun hk => ⟨hk, ?_⟩⟩
      rw [Record.isFree_eq_false_of_isCommitting (hc.trans hk.1)]
      rfl
  · rw [hs.restartRecord_committed h r]
    refine congrArg List.sum (List.map_congr_left fun k hk => ?_)
    rw [horder, List.mem_filter] at hk
    rcases s.restartRecord_record_cases h k with hfree | ⟨-, hb⟩
    · simp [hfree, Record.isFree] at hk
    · simp only [Record.currentOr0, hb]

/-! ### All records -/

theorem State.restartRecords_tableOnly (l : List Handle) (s : State) :
    s.TableOnly (s.restartRecords l) := by
  induction l generalizing s with
  | nil => exact .refl s
  | cons h hs ih => exact (s.restartRecord_tableOnly h).trans (ih _)

/-- RESTART over handles without repetition leaves of each record what Table 2-5 states. -/
theorem State.restartRecords_record {l : List Handle} (hl : l.Nodup) (s : State) (k : Handle) :
    (s.restartRecords l).record k =
      if k ∈ l then s.shadow.keptRecord (s.record k) else s.record k := by
  induction l generalizing s with
  | nil => simp [State.restartRecords]
  | cons h hs ih =>
    obtain ⟨hh, hhs⟩ := List.nodup_cons.1 hl
    rw [State.restartRecords, ih hhs, (s.restartRecord_tableOnly h).shadow,
      State.restartRecord_record]
    by_cases he : h = k
    · subst he; simp [hh]
    · simp [he, Ne.symm he]

/-- RESTART over handles without repetition turns off the channels of the committing records that it
frees. -/
theorem State.restartRecords_channel {l : List Handle} (hl : l.Nodup) (s : State) (o : Output) :
    (s.restartRecords l).channel o =
      if ∃ h ∈ l, s.shadow.cutsOff (s.record h) o = true then (s.channel o).turnOff
      else s.channel o := by
  induction l generalizing s with
  | nil => simp [State.restartRecords]
  | cons h hs ih =>
    obtain ⟨hh, hhs⟩ := List.nodup_cons.1 hl
    have hlater : (∃ k ∈ hs, s.shadow.cutsOff ((s.restartRecord h).record k) o = true) ↔
        ∃ k ∈ hs, s.shadow.cutsOff (s.record k) o = true :=
      exists_congr fun k => and_congr_right fun hk => by
        have hne : h ≠ k := fun he => hh (he ▸ hk)
        rw [State.restartRecord_record, if_neg hne]
    rw [State.restartRecords, ih hhs, (s.restartRecord_tableOnly h).shadow,
      State.restartRecord_channel]
    simp only [hlater, List.exists_mem_cons_iff]
    by_cases hnow : s.shadow.cutsOff (s.record h) o = true
    · simp only [hnow, if_true, true_or, Channel.turnOff_turnOff, ite_self]
    · simp only [hnow, if_false, false_or, Bool.false_eq_true]

/-- RESTART keeps the grant orders exact (R28, R32). -/
theorem State.GrantOrdersExact.restartRecords {s : State} (hs : s.GrantOrdersExact)
    (l : List Handle) : (s.restartRecords l).GrantOrdersExact := by
  induction l generalizing s with
  | nil => exact hs
  | cons h _ ih => exact ih (hs.restartRecord h)

/-- A FREE record stays FREE under RESTART. -/
theorem State.restartRecords_free {s : State} {k : Handle} (hk : s.record k = .free)
    (l : List Handle) : (s.restartRecords l).record k = .free := by
  induction l generalizing s with
  | nil => exact hk
  | cons h _ ih => exact ih (by rw [State.restartRecord_record, hk]; simp)

/-- RESTART keeps on the grant orders exactly the records it does not free, in their order. -/
theorem State.GrantOrdersExact.restartRecords_grantOrder {s : State} (hs : s.GrantOrdersExact)
    (l : List Handle) (r : Rail) :
    ((s.restartRecords l).rail r).grantOrder =
      (s.rail r).grantOrder.filter (fun k => !((s.restartRecords l).record k).isFree) := by
  induction l generalizing s with
  | nil =>
    refine (List.filter_eq_self.2 fun k hk => ?_).symm
    simp [State.restartRecords, hs.isFree_eq_false hk]
  | cons h l ih =>
    rw [State.restartRecords, ih (hs.restartRecord h), hs.restartRecord_grantOrder,
      List.filter_filter]
    refine List.filter_congr fun k _ => ?_
    by_cases hk : (s.restartRecord h).record k = .free
    · simp [State.restartRecords_free hk, Record.isFree]
    · simp [Bool.eq_false_iff.2 (mt Record.isFree_iff.1 hk)]

/-! ## RESTART at the accounts and the ports (R47, R115, R125, R151, R165) -/

/-- RESTART at an account: its scan finds an empty list (R47). -/
theorem State.restartRail_eq (s : State) (r : Rail) :
    s.restartRail r = s.onRail r (fun a => { a with waiting := [], cap := Config.fullCap }) := by
  simp [State.restartRail, State.scan, State.scanFrom]

/-- RESTART at the four accounts, one after another. -/
def State.restartRails (s : State) : State :=
  (((s.restartRail 0).restartRail 1).restartRail 2).restartRail 3

/-- RESTART at the four accounts changes the accounts alone. -/
theorem State.restartRails_eq (s : State) :
    s.restartRails = { s with rails := s.restartRails.rails } := by
  simp only [State.restartRails, State.restartRail_eq]; rfl

@[simp] theorem State.restartRails_port (s : State) (q : Port) :
    s.restartRails.port q = s.port q := by
  rw [State.restartRails_eq]; cases q <;> rfl

@[simp] theorem State.restartRails_portRow (s : State) (q : Port) :
    s.restartRails.portRow q = s.portRow q := by
  rw [State.restartRails_eq]; rfl

theorem State.restartRails_rail (s : State) (r : Rail) :
    s.restartRails.rail r = { s.rail r with waiting := [], cap := Config.fullCap } := by
  simp only [State.restartRails, State.restartRail_eq, State.onRail_rail]
  fin_cases r <;> rfl

/-- RESTART at both ports. -/
def State.restartPorts (s : State) : State := (s.restartPort .a).restartPort .b

/-- RESTART at the ports changes the ports alone. -/
theorem State.restartPorts_eq (s : State) :
    s.restartPorts = { s with portA := s.restartPorts.portA, portB := s.restartPorts.portB } := rfl

theorem State.restartPorts_port (s : State) (q : Port) :
    s.restartPorts.port q =
      { s.port q with
        noticeOrder := [], attnLow := false, front := none, capture := .idle
        register := ReplyRegister.cleared, lastSeq := none
        patience := (s.portRow q).patience } := by
  cases q <;> rfl

/-! ## RESTART, whole (R150) -/

/-- The records as RESTART leaves them, nothing else yet done. -/
def State.restartTable (s : State) : State := s.restartRecords (List.finRange 48)

/-- What RESTART makes of the state at the blocks, before its frame is answered. -/
def State.restarted (s : State) : State := s.restartTable.restartRails.restartPorts.countChange

theorem State.restartTable_tableOnly (s : State) : s.TableOnly s.restartTable :=
  State.restartRecords_tableOnly _ s

/-- RESTART writes the records, the change count, the accounts, the channels and the ports alone. -/
theorem State.restarted_eq (s : State) :
    s.restarted =
      { s with
        records := s.restartTable.records, changeCount := s.changeCount + 1
        rails := s.restartTable.restartRails.rails, channels := s.restartTable.channels
        portA := s.restartTable.restartRails.restartPorts.portA
        portB := s.restartTable.restartRails.restartPorts.portB } := by
  rw [State.restarted, State.restartPorts_eq, State.countChange, State.restartRails_eq,
    s.restartTable_tableOnly.rest]

theorem State.restartTable_record (s : State) (h : Handle) :
    s.restartTable.record h = s.shadow.keptRecord (s.record h) := by
  simp [State.restartTable, State.restartRecords_record (List.nodup_finRange 48)]

@[simp] theorem State.restarted_record (s : State) (h : Handle) :
    s.restarted.record h = s.shadow.keptRecord (s.record h) := by
  have hrecords : s.restarted.records = s.restartTable.records := by rw [State.restarted_eq]
  rw [State.record, hrecords]
  exact s.restartTable_record h

/-- RESTART at a rail: an empty list, the full cap, and the grant order and current of the records
kept (R47). -/
theorem State.GrantOrdersExact.restarted_rail {s : State} (hs : s.GrantOrdersExact) (r : Rail) :
    s.restarted.rail r =
      { s.rail r with
        waiting := [], cap := Config.fullCap
        grantOrder := (s.rail r).grantOrder.filter (fun h => !(s.restarted.record h).isFree)
        committed := (((s.rail r).grantOrder.filter
            (fun h => !(s.restarted.record h).isFree)).map
          (fun h => (s.record h).currentOr0)).sum } := by
  have horder : (s.restartTable.rail r).grantOrder = (s.rail r).grantOrder.filter
      (fun h => !(s.restartTable.record h).isFree) := hs.restartRecords_grantOrder _ r
  have hcommitted : (s.restartTable.rail r).committed =
      ((s.restartTable.rail r).grantOrder.map (fun h => (s.record h).currentOr0)).sum := by
    refine ((hs.restartRecords (List.finRange 48)).committed_eq r).trans
      (congrArg List.sum (List.map_congr_left fun k hk => ?_))
    change k ∈ (s.restartTable.rail r).grantOrder at hk
    have hne : s.shadow.keptRecord (s.record k) ≠ .free := by
      rw [horder, List.mem_filter] at hk
      simpa [State.restartTable_record, ← Record.isFree_iff] using hk.2
    obtain ⟨-, -, hbooking, -⟩ := (s.shadow.keptRecord_cases (s.record k)).resolve_left hne
    rw [Record.currentOr0, Record.currentOr0, ← hbooking, ← s.restartTable_record]; rfl
  have hrails : s.restarted.rails = s.restartTable.restartRails.rails := by rw [State.restarted_eq]
  have hrail : s.restarted.rail r = s.restartTable.restartRails.rail r := by
    rw [State.rail, hrails]; rfl
  simp only [State.restarted_record, ← State.restartTable_record]
  rw [hrail, State.restartRails_rail, s.restartTable_tableOnly.rails r, hcommitted, horder]

/-- RESTART turns off the channels of the committing records that it frees. -/
theorem State.restarted_channel (s : State) (n : Output) :
    s.restarted.channel n =
      if ∃ h, s.shadow.cutsOff (s.record h) n = true then (s.channel n).turnOff
      else s.channel n := by
  have hchannels : s.restarted.channels = s.restartTable.channels := by rw [State.restarted_eq]
  rw [State.channel, hchannels]
  refine (State.restartRecords_channel (List.nodup_finRange 48) s n).trans ?_
  simp only [List.mem_finRange, true_and]

/-- The channel of a committing record is on or in RETRY (R86, R87), so turning it off writes it. -/
theorem State.Sound.turnOff_channel {s : State} (hs : s.Sound) {h : Handle} {n : Output}
    (hc : (s.record h).covers n = true) (hcommits : (s.record h).isCommitting = true) :
    (s.channel n).turnOff =
      { s.channel n with
        state := .off, enableHigh := false, retryTimer := none, tripRaised := false } := by
  have hstate : (s.channel n).state = .on ∨ (s.channel n).state = .retry := by
    have hkind : (s.record h).isOn = true ∨ (s.record h).isTripped = true := by
      revert hcommits
      cases s.record h <;> simp [Record.isCommitting, Record.isOn, Record.isTripped]
    exact hkind.imp (fun hon => (hs.channels n).1.2 ⟨h, hc, hon⟩)
      (fun htripped => (hs.channels n).2.2 ⟨h, hc, htripped⟩)
  rcases hstate with hon | hretry
  · simp only [Channel.turnOff, hon]
  · simp only [Channel.turnOff, hretry]

/-- RESTART at the channel of an output with a lease (R87, R101). -/
theorem State.Sound.restarted_channel_covered {s : State} (hs : s.Sound) {h : Handle} {n : Output}
    (hc : (s.record h).covers n = true) :
    s.restarted.channel n =
      if (s.record h).isCommitting && (s.restarted.record h).isFree then
        { s.channel n with
          state := .off, enableHigh := false, retryTimer := none, tripRaised := false }
      else s.channel n := by
  have hcuts : (∃ k, s.shadow.cutsOff (s.record k) n = true) ↔
      ((s.record h).isCommitting && (s.restarted.record h).isFree) = true := by
    simp only [Profile.cutsOff, Bool.and_eq_true, State.restarted_record]
    constructor
    · rintro ⟨k, ⟨hk, hkc⟩, hkf⟩
      rw [hs.once h k n hc hkc]
      exact ⟨hk, hkf⟩
    · rintro ⟨hk, hkf⟩
      exact ⟨h, ⟨hk, hc⟩, hkf⟩
  rw [State.restarted_channel, if_congr hcuts rfl rfl]
  split
  · next hfree => exact hs.turnOff_channel hc (Bool.and_eq_true_iff.1 hfree).1
  · rfl

/-- RESTART leaves the channel of an output without a lease. -/
theorem State.restarted_channel_uncovered {s : State} {n : Output}
    (hn : ∀ h, (s.record h).covers n = false) : s.restarted.channel n = s.channel n := by
  simp [State.restarted_channel, Profile.cutsOff, hn]

theorem State.restarted_port (s : State) (q : Port) :
    s.restarted.port q =
      { s.port q with
        noticeOrder := [], attnLow := false, front := none, capture := .idle
        register := ReplyRegister.cleared, lastSeq := none
        patience := (s.portRow q).patience } := by
  have hport : s.restarted.port q = s.restartTable.restartRails.restartPorts.port q :=
    State.countChange_port _ q
  have hrow : s.restartTable.portRow q = s.portRow q := by
    rw [State.portRow, State.portRow, s.restartTable_tableOnly.shadow]
  rw [hport, State.restartPorts_port, State.restartRails_port, State.restartRails_portRow, hrow,
    s.restartTable_tableOnly.ports q]

/-- The records device-held after RESTART are those it did not free. -/
theorem State.deviceHeld_restartTable (s : State) :
    s.restartTable.deviceHeld =
      (List.finRange 48).countP (fun h => !(s.restarted.record h).isFree) := by
  refine List.countP_congr fun h _ => ?_
  rw [State.restartTable_record, State.restarted_record]
  rcases s.shadow.keptRecord_cases (s.record h) with hfree | ⟨-, hc, -, hheld⟩
  · simp [hfree, Record.isDeviceHeld, Record.holder?, Record.isFree]
  · simp [hheld, Record.isFree_eq_false_of_isCommitting hc]

/-- How many more entries have a property than a narrower one. -/
theorem countP_sub_countP {α : Type} (l : List α) {wide narrow : α → Bool}
    (h : ∀ a, narrow a = true → wide a = true) :
    l.countP wide - l.countP narrow = l.countP (fun a => wide a && !narrow a) := by
  have hsplit := l.countP_eq_countP_filter_add wide narrow
  have hnarrow : (l.filter narrow).countP wide = l.countP narrow := by
    rw [List.countP_filter]
    exact List.countP_congr fun a _ => by simpa using h a
  rw [hnarrow, List.countP_filter] at hsplit
  omega

/-- The records FREE after RESTART that were not before it are those it freed. -/
theorem State.notFree_sub_restartTable (s : State) :
    s.notFree - s.restartTable.notFree =
      (List.finRange 48).countP (fun h =>
        !(s.record h).isFree && (s.restarted.record h).isFree) := by
  have hfreed : ∀ h, (!(s.restartTable.record h).isFree) = true →
      (!(s.record h).isFree) = true := by
    intro h
    rw [State.restartTable_record]
    cases s.record h <;> simp [Record.isFree]
  rw [State.notFree, State.notFree, countP_sub_countP _ hfreed]
  simp only [Bool.not_not, State.restartTable_record, State.restarted_record]

/-- RESTART at the blocks (R150). -/
theorem cmdRestart_eq (p : Port) (f : Fields) (s : State) :
    cmdRestart p f s = (s.restarted, ⟨.done, 0,
      (List.finRange 48).countP (fun h => !(s.restarted.record h).isFree),
      (List.finRange 48).countP (fun h =>
        !(s.record h).isFree && (s.restarted.record h).isFree)⟩) := by
  rw [← State.deviceHeld_restartTable, ← State.notFree_sub_restartTable]; rfl

/-- A RESTART frame taken at step 9 is answered as any other, but leaves no last sequence (R151). -/
theorem State.takes_exec_restart {s : State} {p : Port} {f : Fields}
    (h : s.takes p .restart f = true) :
    exec (.restart p f) s = .next (((s.run .restart p f).1.raiseSelect p).answer p
      Command.restart.code f.seq none (s.run .restart p f).2) := by
  simp only [State.takes, Bool.and_eq_true, Bool.not_eq_true'] at h
  obtain ⟨⟨hadmits, hrole⟩, hmode⟩ := h
  refine (State.admits_exec hadmits .restart).trans ?_
  simp only [State.execute, State.raiseSelect_portRow, hrole, Bool.false_eq_true, if_false,
    State.raiseSelect_mode, hmode, if_true, State.raiseSelect_run, Command.lastSeqAfter]

/-- The end of a RESTART frame is written at its port alone (R151, R156, R164). -/
theorem State.raiseSelect_answer_eq (s : State) (p : Port) (code : BitVec 7) (seq : Bool)
    (last : Option Bool) (reply : Reply) :
    (s.raiseSelect p).answer p code seq last reply = s.onPort p (fun ps =>
      { ps with
        shifter := .idle, dataOut := none, lastSeq := last
        register := ⟨code, seq, .taken, reply⟩ }) := by
  cases p <;> rfl

/-- Settles O58: the frame's end is written at its port alone, and every block is as `restarted` has
it. -/
theorem restartKeepsHolds : Obligations.RestartKeepsHolds := by
  intro s p f ht hs
  have hmode : s.mode = .service := by
    simp only [State.takes, Bool.and_eq_true] at ht
    simpa [Command.takenIn] using ht.2
  have hexec := State.takes_exec_restart ht
  rw [State.run, cmdRestart_eq, State.raiseSelect_answer_eq] at hexec
  refine ⟨_, hexec, fun h => ?_, fun r => ?_, fun h n hc => ?_, fun n hn => ?_, fun q => ?_, ?_⟩
  · rw [State.onPort_record, State.restarted_record]
    cases s.record h <;> rfl
  · simp only [State.onPort_record, State.onPort_rail]
    exact hs.grants.restarted_rail r
  · simp only [State.onPort_record, State.onPort_channel]
    exact hs.restarted_channel_covered hc
  · rw [State.onPort_channel]
    exact State.restarted_channel_uncovered hn
  · simp only [State.onPort_record, State.onPort_port]
    by_cases hq : p = q
    · subst hq
      simp only [if_true, State.restarted_port]
    · simp only [if_neg hq, if_neg (Ne.symm hq), State.restarted_port]
      rfl
  · simp only [State.onPort_changeCount, State.onPort_mode, State.onPort_shadow, State.onPort_array,
      State.onPort_staging, State.onPort_write, State.onPort_load]
    rw [State.restarted_eq]
    exact ⟨rfl, hmode, rfl, rfl, rfl, rfl, rfl⟩

end Sys2Proof.Machine
end

section
/-! PROOFS. The budget: what an account comes to, the waiters that block a class, SET CAP and READ
RAIL. -/

namespace Sys2Proof.Machine

/-! ## The account alone -/

/-- The reading of the two health inputs, FULL looked at only while PRESENT (R33). -/
theorem Account.reading_eq (a : Account) : a.reading =
    match a.present, a.full with
    | false, _ => .lost
    | true, false => .reduced
    | true, true => .normal := by
  unfold Account.reading
  cases a.present
  case false => rfl
  case true => cases a.full <;> rfl

/-- The room for a class as a difference of integers cut at 0 (R29): subtracting from a limit below
committed, or from less than the reserve, leaves no room. -/
theorem Account.room_eq_max (a : Account) (c : LeaseClass) : (a.room c : Int) =
    max 0 ((a.limit : Int) - a.committed - (if c = 0 then 0 else a.reserve)) := by
  unfold Account.room
  split <;> omega

/-! ## The waiters that block a class -/

/-- A record that blocks class `c` on rail `r`: a waiter of the rail, of that class or of higher
priority (R30, R31). -/
def Record.blocks (x : Record) (r : Rail) (c : LeaseClass) : Bool :=
  x.isWaiting && x.booking?.any (fun b => b.rail = r && b.cls ≤ c)

/-- A record blocks when it is WAITING on a booking of the rail whose class is high enough. -/
theorem Record.blocks_iff {x : Record} {r : Rail} {c : LeaseClass} : x.blocks r c = true ↔
    x.isWaiting = true ∧ ∃ b, x.booking? = some b ∧ b.rail = r ∧ b.cls ≤ c := by
  simp [Record.blocks, Option.any_eq_true]

/-- The handles that `State.blockers` counts on the list are those of the blocking records: a list
holds every waiter of its rail and no other (R48). -/
theorem State.WaitingListsExact.mem_and_blocks_iff {s : State} (hs : s.WaitingListsExact) {r : Rail}
    {c : LeaseClass} {h : Handle} :
    (h ∈ (s.rail r).waiting ∧ ((s.record h).isWaiting
      && (s.record h).booking?.any (fun b => b.cls ≤ c)) = true) ↔
      (s.record h).blocks r c = true := by
  rw [hs.mem_iff, Record.blocks_iff, Record.onRail]
  cases (s.record h).booking? with
  | none => simp
  | some b =>
    simp only [Option.any_some, Bool.and_eq_true, decide_eq_true_eq, Option.some.injEq,
      exists_eq_left']
    tauto

/-- The blocking waiters counted along the list are those counted over the Lease Table, since a list
holds each waiter once (R31, R48). -/
theorem State.WaitingListsExact.blockers_eq {s : State} (hs : s.WaitingListsExact) (r : Rail)
    (c : LeaseClass) :
    s.blockers r c = (List.finRange 48).countP (fun h => (s.record h).blocks r c) := by
  have hperm : ((s.rail r).waiting.filter (fun h => (s.record h).isWaiting
        && (s.record h).booking?.any (fun b => b.cls ≤ c))).Perm
      ((List.finRange 48).filter (fun h => (s.record h).blocks r c)) := by
    refine (List.perm_ext_iff_of_nodup ((hs r).1.filter _)
      ((List.nodup_finRange 48).filter _)).2 fun h => ?_
    rw [List.mem_filter, hs.mem_and_blocks_iff]
    simp
  rw [State.blockers, List.countP_eq_length_filter, List.countP_eq_length_filter, hperm.length_eq]

/-- No waiter blocks a class exactly when every waiter of the rail is of lower priority (R30). -/
theorem State.WaitingListsExact.blockers_eq_zero_iff {s : State} (hs : s.WaitingListsExact)
    {r : Rail} {c : LeaseClass} : s.blockers r c = 0 ↔
      ∀ h b, (s.record h).isWaiting = true → (s.record h).booking? = some b → b.rail = r →
        c < b.cls := by
  rw [hs.blockers_eq, List.countP_eq_zero]
  refine ⟨fun hnone h b hw hb hr => not_le.1 fun hle => ?_, fun hlow h _ hblocks => ?_⟩
  · exact hnone h (List.mem_finRange h) (Record.blocks_iff.2 ⟨hw, b, hb, hr, hle⟩)
  · obtain ⟨hw, b, hb, hr, hle⟩ := Record.blocks_iff.1 hblocks
    exact absurd (hlow h b hw hb hr) (not_lt.2 hle)

/-- The fit test asks for the room and for no waiter that blocks (R30). -/
theorem State.fits_iff {s : State} {r : Rail} {c : LeaseClass} {d : Nat} :
    s.fits r c d = true ↔ d ≤ (s.rail r).room c ∧ s.blockers r c = 0 := by
  simp [State.fits]

/-- Settles O28: each value is its definition's but for the two that read the waiting list, which
holds the rail's waiters exactly. -/
theorem limitRoomAndFit : Obligations.LimitRoomAndFit := by
  refine ⟨Account.reading_eq, fun a => ?_, Account.room_eq_max, fun s r c d hs => ?_,
    fun s r c hs => hs.blockers_eq r c⟩
  · rfl
  · rw [State.fits_iff, hs.blockers_eq_zero_iff]

/-! ## SET CAP -/

/-- A selector of 0 to 3 names the rail of its number (R39). -/
theorem railOf_eq_some {sel : BitVec 7} {r : Rail} (h : sel.toNat = r.val) :
    railOf sel = some r := by
  have hlt : sel.toNat < 4 := h ▸ r.isLt
  simp only [railOf, hlt, dif_pos, Option.some.injEq]
  exact Fin.ext h

/-- A selector above 3 names no rail (R39). -/
theorem railOf_eq_none {sel : BitVec 7} (h : 3 < sel.toNat) : railOf sel = none := by
  simp only [railOf, dif_neg (show ¬ sel.toNat < 4 by omega)]

/-- What follows from a change of a limit leaves every limit as it is (R36). -/
theorem State.limitChange_limit (s : State) (r : Rail) (old : Nat) (k : Rail) :
    ((s.limitChange r old).1.rail k).limit = (s.rail k).limit := by
  obtain ⟨t, htable, heq | heq⟩ := s.limitChange_tableOnly r old
  · rw [heq, htable.limit]
  · rw [heq, State.countChange_rail, htable.limit]

/-- SET CAP of a rail (R39). The limit reported is that of the cap written, as the limit change keeps
it. -/
theorem cmdSetCap_rail {f : Fields} {r : Rail} (p : Port) (s : State)
    (hr : f.selector.toNat = r.val) :
    let capped := s.onRail r (fun a => { a with cap := f.valueA.toNat })
    let changed := capped.limitChange r (s.rail r).limit
    cmdSetCap p f s = (changed.1, ⟨.done, 0, (capped.rail r).limit, changed.2⟩) := by
  simp only [cmdSetCap, railOf_eq_some hr, State.limitChange_limit]

/-- SET CAP of a selector that names no rail (R39). -/
theorem cmdSetCap_badValue {f : Fields} (p : Port) (s : State) (h : 3 < f.selector.toNat) :
    cmdSetCap p f s = (s, ⟨.badValue, 0, 0, 0⟩) := by
  simp only [cmdSetCap, railOf_eq_none h, State.refuse, Reply.only]

/-! ## READ RAIL -/

/-- Part 0 of READ RAIL: the limit and committed (R44, Table 3-7). -/
theorem cmdReadRail_limit {f : Fields} {r : Rail} (p : Port) (s : State)
    (hr : f.selector.toNat = r.val) (hpart : f.valueA.toNat = 0) :
    cmdReadRail p f s = (s, ⟨.done, 0, (s.rail r).limit, (s.rail r).committed⟩) := by
  simp only [cmdReadRail, railOf_eq_some hr, hpart]

/-- Part 1 of READ RAIL: the cap, and the health level with the number of waiters (R44, Table 3-7). -/
theorem cmdReadRail_cap {f : Fields} {r : Rail} (p : Port) (s : State)
    (hr : f.selector.toNat = r.val) (hpart : f.valueA.toNat = 1) :
    cmdReadRail p f s = (s, ⟨.done, 0, (s.rail r).cap,
      (s.rail r).health.number * 64 + (s.rail r).waiting.length⟩) := by
  simp only [cmdReadRail, railOf_eq_some hr, hpart, packRail]

/-- READ RAIL of a selector that names no rail, or of a part that Table 3-7 has not (R44). -/
theorem cmdReadRail_badValue {f : Fields} (p : Port) (s : State)
    (h : 3 < f.selector.toNat ∨ 1 < f.valueA.toNat) :
    cmdReadRail p f s = (s, ⟨.badValue, 0, 0, 0⟩) := by
  unfold cmdReadRail
  cases hr : railOf f.selector with
  | none => rfl
  | some r =>
    have hsel : ¬ 3 < f.selector.toNat := fun hlt => by simp [railOf_eq_none hlt] at hr
    have hpart : 1 < f.valueA.toNat := h.resolve_left hsel
    simp only
    split
    next hzero => omega
    next hone => omega
    next => rfl

/-- Settles O33: each frame is carried out at the Budget Unit alone, and its reply is read off the
case of the selector and the part. -/
theorem railCommands : Obligations.RailCommands := by
  refine ⟨fun s p f ht => ⟨fun r hr => ?_, fun hsel => ?_⟩,
    fun s p f ht => ⟨fun r hr hpart => ?_, fun r hr hpart => ?_, fun hbad => ?_⟩⟩
  · exact State.takes_exec_of_run ht (by decide) (cmdSetCap_rail p s hr)
  · exact State.takes_exec_of_run ht (by decide) (cmdSetCap_badValue p s hsel)
  · exact State.takes_exec_of_run ht (by decide) (cmdReadRail_limit p s hr hpart)
  · exact State.takes_exec_of_run ht (by decide) (cmdReadRail_cap p s hr hpart)
  · exact State.takes_exec_of_run ht (by decide) (cmdReadRail_badValue p s hbad)

end Sys2Proof.Machine
end

section
/-! PROOFS. The waiting lists: a scan is a run of grants from the head of its list. -/

namespace Sys2Proof.Machine

/-! ## One grant from the list (R56) -/

/-- A channel turned on twice is turned on once (R87). -/
theorem Channel.turnOn_turnOn (c : Channel) : c.turnOn.turnOn = c.turnOn := rfl

theorem State.grantWaiter_record (s : State) (h k : Handle) (b : Booking) (c : Client)
    (term : Nat) : (s.grantWaiter h b c term).record k =
      if h = k then .granted b c term term (s.outputRow b.output).retryAllowance (some ⟨.granted, c⟩)
      else s.record k := by
  rw [State.grantWaiter, State.setRecord_record]
  simp [State.postNotice, State.joinGrants, State.leaveList]

/-- A reading in which the waiter and the lease it is granted as agree is the same of every record
before and after the grant. -/
theorem State.grantWaiter_record_apply {α : Type} (f : Record → α) {s : State} {h : Handle}
    {b : Booking} {c : Client} {term patience : Nat} (hx : s.record h = .waiting b c term patience)
    (hf : ∀ retries n, f (.granted b c term term retries n) = f (.waiting b c term patience))
    (k : Handle) : f ((s.grantWaiter h b c term).record k) = f (s.record k) := by
  rw [State.grantWaiter_record]
  split
  · next he => rw [hf, ← he, hx]
  · rfl

/-- A grant takes the waiter off the list, puts it last in the grant order and commits its current
(R28, R32, R51). -/
theorem State.grantWaiter_rail (s : State) (h : Handle) (b : Booking) (c : Client) (term : Nat) :
    (s.grantWaiter h b c term).rail b.rail = { s.rail b.rail with
      waiting := (s.rail b.rail).waiting.erase h
      grantOrder := (s.rail b.rail).grantOrder ++ [h]
      committed := (s.rail b.rail).committed + b.current } := by
  simp [State.grantWaiter, State.postNotice, State.joinGrants, State.leaveList]

theorem State.grantWaiter_rail_ne (s : State) (h : Handle) {b : Booking} (c : Client) (term : Nat)
    {k : Rail} (hk : k ≠ b.rail) : (s.grantWaiter h b c term).rail k = s.rail k := by
  simp [State.grantWaiter, State.postNotice, State.joinGrants, State.leaveList,
    State.onRail_rail_ne, hk]

theorem State.grantWaiter_channel (s : State) (h : Handle) (b : Booking) (c : Client) (term : Nat)
    (n : Output) : (s.grantWaiter h b c term).channel n =
      if b.output = n then (s.channel n).turnOn else s.channel n := by
  simp only [State.grantWaiter, State.postNotice, State.dropNotice, State.setRecord_channel,
    State.onPort_channel, State.onChannel_channel]
  split
  · next he => rw [he]; rfl
  · rfl

/-- A grant's notice joins the end of the holder's order, and so the line is asserted (R104, R107). -/
theorem State.grantWaiter_port (s : State) (h : Handle) (b : Booking) (c : Client) (term : Nat)
    (q : Port) : (s.grantWaiter h b c term).port q =
      if c.port = q then
        { s.port q with noticeOrder := (s.port q).noticeOrder ++ [h], attnLow := true }
      else s.port q := by
  simp only [State.grantWaiter, State.postNotice, State.dropNotice, State.setRecord_port,
    State.onPort_port, State.onChannel_port]
  split
  · next he => rw [he]; simp [PortState.withOrder, State.joinGrants, State.leaveList]
  · rfl

@[simp] theorem State.grantWaiter_outputRow (s : State) (h : Handle) (b : Booking) (c : Client)
    (term : Nat) (n : Output) : (s.grantWaiter h b c term).outputRow n = s.outputRow n := by
  simp only [State.outputRow, (s.grantWaiter_tableOnly h b c term).shadow]

/-- A WAITING record of a rail has a waiter's fields, and its booking names the rail. -/
theorem Record.waiter_iff {x : Record} {r : Rail} :
    x.isWaiting = true ∧ x.onRail r = true ↔
      ∃ b c term patience, x = .waiting b c term patience ∧ b.rail = r := by
  cases x <;> simp [Record.isWaiting, Record.onRail, Record.booking?]

/-- A waiter covers the output of its booking, and no other (R2). -/
theorem Record.covers_waiting (b : Booking) (c : Client) (term patience : Nat) (n : Output) :
    (Record.waiting b c term patience).covers n = true ↔ b.output = n := by
  simp [Record.covers, Record.isWaiting, Record.booking?]

/-! ## Grants one after another (R52) -/

/-- `t` comes from `s` by granting the waiters `l` of rail `r` in the order of `l`, each fitting the
room that the grants before it left. -/
inductive State.GrantsAlong (r : Rail) : State → List Handle → State → Prop
  | nil (s : State) : State.GrantsAlong r s [] s
  | cons {s t : State} {h : Handle} {hs : List Handle} {b : Booking} {c : Client}
      {term patience : Nat} (hx : s.record h = .waiting b c term patience) (hr : b.rail = r)
      (hfit : b.current ≤ (s.rail r).room b.cls)
      (hrest : State.GrantsAlong r (s.grantWaiter h b c term) hs t) :
      State.GrantsAlong r s (h :: hs) t

namespace State.GrantsAlong

variable {r : Rail} {s t : State} {l : List Handle}

theorem isWaiting (hg : s.GrantsAlong r l t) {k : Handle} (hk : k ∈ l) :
    (s.record k).isWaiting = true := by
  induction hg with
  | nil => cases hk
  | cons hx hr hfit hrest ih =>
    rcases List.mem_cons.1 hk with rfl | hk
    · rw [hx]; rfl
    · have hw := ih hk
      rw [State.grantWaiter_record] at hw
      split at hw
      · cases hw
      · exact hw

/-- A record granted is WAITING no more, so that it is granted once. -/
theorem not_mem_of_granted {h : Handle} {b : Booking} {c : Client} {term : Nat}
    (hg : (s.grantWaiter h b c term).GrantsAlong r l t) : h ∉ l := fun hin => by
  simpa [State.grantWaiter_record, Record.isWaiting] using hg.isWaiting hin

/-- A record not granted stays as it was. -/
theorem record_of_not_mem (hg : s.GrantsAlong r l t) {k : Handle} (hk : k ∉ l) :
    t.record k = s.record k := by
  induction hg with
  | nil => rfl
  | cons hx hr hfit hrest ih =>
    rw [List.mem_cons, not_or] at hk
    rw [ih hk.2, State.grantWaiter_record, if_neg (Ne.symm hk.1)]

/-- Each waiter granted is then GRANTED, with its term's countdown started and its notice (R56). -/
theorem record_of_mem (hg : s.GrantsAlong r l t) {k : Handle} (hk : k ∈ l) :
    ∃ b c term patience, s.record k = .waiting b c term patience
      ∧ t.record k = .granted b c term term (s.outputRow b.output).retryAllowance
        (some ⟨.granted, c⟩) := by
  induction hg with
  | nil => cases hk
  | @cons s t h hs b c term patience hx hr hfit hrest ih =>
    rcases List.mem_cons.1 hk with rfl | hk
    · refine ⟨b, c, term, patience, hx, ?_⟩
      rw [hrest.record_of_not_mem hrest.not_mem_of_granted, State.grantWaiter_record, if_pos rfl]
    · obtain ⟨b', c', term', patience', hwait, hgranted⟩ := ih hk
      have hne : h ≠ k := fun he => hrest.not_mem_of_granted (he ▸ hk)
      rw [State.grantWaiter_record, if_neg hne] at hwait
      rw [State.grantWaiter_outputRow] at hgranted
      exact ⟨b', c', term', patience', hwait, hgranted⟩

/-- The channels of the outputs granted are turned on, and every other is as it was (R87). -/
theorem channel (hg : s.GrantsAlong r l t) (n : Output) :
    t.channel n = if ∃ h ∈ l, (s.record h).covers n = true then (s.channel n).turnOn
      else s.channel n := by
  induction hg with
  | nil => simp
  | @cons s t h hs b c term patience hx hr hfit hrest ih =>
    rw [ih, State.grantWaiter_channel]
    simp only [State.grantWaiter_record_apply (fun x => x.covers n) hx (fun _ _ => rfl),
      List.exists_mem_cons_iff, hx, Record.covers_waiting]
    by_cases ho : b.output = n
    · simp [ho, Channel.turnOn_turnOn]
    · simp [ho]

/-- The account of the rail has the waiters granted in its grant order in place of its list, and
their currents committed (R28, R32, R51). -/
theorem rail (hg : s.GrantsAlong r l t) {rest : List Handle} (hw : (s.rail r).waiting = l ++ rest) :
    t.rail r = { s.rail r with
      waiting := rest, grantOrder := (s.rail r).grantOrder ++ l
      committed := (s.rail r).committed + (l.map (fun h => (s.record h).currentOr0)).sum } := by
  induction hg with
  | nil s =>
    obtain rfl : (s.rail r).waiting = rest := hw
    simp
  | @cons s t h hs b c term patience hx hr hfit hrest ih =>
    subst hr
    have hcur : (s.record h).currentOr0 = b.current := by rw [hx]; rfl
    have hrail := s.grantWaiter_rail h b c term
    rw [ih (by simp [hrail, hw]), hrail]
    simp [State.grantWaiter_record_apply Record.currentOr0 hx (fun _ _ => rfl), hcur,
      Nat.add_assoc]

theorem rail_ne (hg : s.GrantsAlong r l t) {k : Rail} (hk : k ≠ r) : t.rail k = s.rail k := by
  induction hg with
  | nil => rfl
  | cons hx hr hfit hrest ih => rw [ih, State.grantWaiter_rail_ne _ _ _ _ (hr ▸ hk)]

/-- The notices of the waiters granted join the ends of their ports' orders in the order of the
grants, and assert the lines of those ports (R104, R107). -/
theorem port (hg : s.GrantsAlong r l t) (q : Port) :
    t.port q = { s.port q with
      noticeOrder := (s.port q).noticeOrder
        ++ l.filter (fun h => (s.record h).countsAgainst = some q)
      attnLow := (s.port q).attnLow
        || l.any (fun h => (s.record h).countsAgainst = some q) } := by
  induction hg with
  | nil => simp
  | @cons s t h hs b c term patience hx hr hfit hrest ih =>
    have hcounts : (s.record h).countsAgainst = some c.port := by rw [hx]; rfl
    rw [ih, State.grantWaiter_port]
    simp only [State.grantWaiter_record_apply Record.countsAgainst hx (fun _ _ => rfl)]
    split
    · next he => simp [hcounts, he]
    · next he => simp [hcounts, he]

/-- Each waiter granted fits the room that stands once those before it are granted (R52). -/
theorem fits (hg : s.GrantsAlong r l t) {done more : List Handle} {h : Handle} {b : Booking}
    (hl : l = done ++ h :: more) (hb : (s.record h).booking? = some b) :
    b.current ≤ ({ s.rail r with committed := (s.rail r).committed
      + (done.map (fun k => (s.record k).currentOr0)).sum } : Account).room b.cls := by
  induction hg generalizing done with
  | nil => simp at hl
  | @cons s t x xs b' c term patience hx hr hfit hrest ih =>
    cases done with
    | nil =>
      obtain ⟨rfl, rfl⟩ := List.cons.inj hl
      obtain rfl : b' = b := by simpa [hx, Record.booking?] using hb
      exact hfit
    | cons d ds =>
      obtain ⟨rfl, rfl⟩ := List.cons.inj hl
      subst hr
      have hcur : (s.record x).currentOr0 = b'.current := by rw [hx]; rfl
      have hlater := ih rfl
        ((State.grantWaiter_record_apply Record.booking? hx (fun _ _ => rfl) h).trans hb)
      simp only [State.grantWaiter_rail,
        State.grantWaiter_record_apply Record.currentOr0 hx (fun _ _ => rfl)] at hlater
      rw [List.map_cons, List.sum_cons, hcur, ← Nat.add_assoc]
      exact hlater

end State.GrantsAlong

/-! ## The scan (R52) -/

/-- A walk that finds a waiter that fits grants it and goes on. -/
theorem State.scanFrom_of_fits {s : State} {r : Rail} {h : Handle} {hs : List Handle} {b : Booking}
    {c : Client} {term patience : Nat} (hx : s.record h = .waiting b c term patience)
    (hfit : b.current ≤ (s.rail r).room b.cls) :
    s.scanFrom r (h :: hs) = (s.grantWaiter h b c term).scanFrom r hs := by
  simp only [State.scanFrom, hx, if_pos hfit]

/-- A walk that finds a waiter that does not fit stops. -/
theorem State.scanFrom_of_not_fits {s : State} {r : Rail} {h : Handle} {hs : List Handle}
    {b : Booking} {c : Client} {term patience : Nat} (hx : s.record h = .waiting b c term patience)
    (hfit : ¬ b.current ≤ (s.rail r).room b.cls) : s.scanFrom r (h :: hs) = s := by
  simp only [State.scanFrom, hx, if_neg hfit]

/-- A walk along waiters of the rail grants them from the head while they fit, and stops before the
first that does not. -/
theorem State.scanFrom_grantsAlong {r : Rail} {l : List Handle} {s : State} (hnodup : l.Nodup)
    (hwait : ∀ h ∈ l, (s.record h).isWaiting = true ∧ (s.record h).onRail r = true) :
    ∃ granted rest, l = granted ++ rest ∧ s.GrantsAlong r granted (s.scanFrom r l)
      ∧ ∀ h b, rest.head? = some h → (s.record h).booking? = some b →
        ((s.scanFrom r l).rail r).room b.cls < b.current := by
  induction l generalizing s with
  | nil => exact ⟨[], [], rfl, .nil s, by simp⟩
  | cons h hs ih =>
    obtain ⟨hh, hhs⟩ := List.nodup_cons.1 hnodup
    obtain ⟨b, c, term, patience, hx, hr⟩ :=
      Record.waiter_iff.1 (hwait h List.mem_cons_self)
    by_cases hfit : b.current ≤ (s.rail r).room b.cls
    · have hkeep : ∀ k ∈ hs, (s.grantWaiter h b c term).record k = s.record k := fun k hk => by
        rw [State.grantWaiter_record, if_neg (fun he : h = k => hh (he ▸ hk))]
      obtain ⟨granted, rest, hl, hg, hstop⟩ := ih (s := s.grantWaiter h b c term) hhs
        (fun k hk => by rw [hkeep k hk]; exact hwait k (List.mem_cons_of_mem _ hk))
      rw [State.scanFrom_of_fits hx hfit]
      refine ⟨h :: granted, rest, by rw [hl]; rfl, .cons hx hr hfit hg, fun k d hk hd => ?_⟩
      exact hstop k d hk
        ((State.grantWaiter_record_apply Record.booking? hx (fun _ _ => rfl) k).trans hd)
    · rw [State.scanFrom_of_not_fits hx hfit]
      refine ⟨[], h :: hs, rfl, .nil s, fun k d hk hd => ?_⟩
      obtain rfl : h = k := by simpa using hk
      obtain rfl : b = d := by simpa [hx, Record.booking?] using hd
      exact Nat.lt_of_not_le hfit

/-- A scan in SERVICE grants the waiters at the head of the rail's list that fit, and leaves the rest
from the first that does not. -/
theorem State.WaitingListsExact.scan_grantsAlong {s : State} (hs : s.WaitingListsExact)
    (hmode : s.mode = .service) (r : Rail) :
    ∃ granted rest, (s.rail r).waiting = granted ++ rest ∧ s.GrantsAlong r granted (s.scan r)
      ∧ ∀ h b, rest.head? = some h → (s.record h).booking? = some b →
        ((s.scan r).rail r).room b.cls < b.current := by
  simp only [State.scan, hmode, if_true]
  exact State.scanFrom_grantsAlong (hs r).1 (fun _ => hs.mem_iff.1)

/-- Settles O31: the scan is a run of grants from the head of the list, and each clause is what such
a run writes. -/
theorem scanGrantsFromHead : Obligations.ScanGrantsFromHead := by
  intro s r hmode hexact
  obtain ⟨granted, rest, hw, hg, hstop⟩ := hexact.scan_grantsAlong hmode r
  refine ⟨granted, rest, hw, hg.rail hw, fun _ => hg.rail_ne, fun h hh => ?_,
    fun _ => hg.record_of_not_mem, fun n hn => ?_, fun q => by rw [hg.port q],
    fun _ _ _ _ hl => hg.fits hl, hstop, (s.scan_tableOnly r).rest, fun q => ?_⟩
  · obtain ⟨b, c, term, patience, hx, ht⟩ := hg.record_of_mem hh
    refine ⟨b, c, term, patience, hx, ht, ?_⟩
    rw [hg.channel, if_pos ⟨h, hh, by rw [hx]; exact (Record.covers_waiting ..).2 rfl⟩]
    rfl
  · rw [hg.channel, if_neg (by rintro ⟨h, hh, hc⟩; simp [hn h hh] at hc)]
  · rw [hg.port q]

end Sys2Proof.Machine
end

section
/-! PROOFS. RENEW of a lease, and the claim of a device-held one. -/

namespace Sys2Proof.Machine

/-! ## Handles of the asking party (R8) -/

/-- A selector of 1 to 48 names the record of its number (R8). -/
theorem handleOf_eq_some {sel : BitVec 7} {h : Handle} (hh : sel.toNat = h.number) :
    handleOf sel = some h := by
  have hslot : sel.toNat = h.val + 1 := hh
  have hrange : 1 ≤ sel.toNat ∧ sel.toNat ≤ 48 := by omega
  simp only [handleOf, dif_pos hrange, Option.some.injEq, Fin.ext_iff]
  omega

/-- A handle resolves for the party that holds its record (R8). -/
theorem State.resolve_of_holder {s : State} {c : Client} {sel : BitVec 7} {h : Handle}
    (hh : sel.toNat = h.number) (hheld : (s.record h).holder? = some (.client c)) :
    s.resolve c sel = .ok h := by
  simp only [State.resolve, handleOf_eq_some hh, if_pos hheld]

/-! ## RENEW (R65) -/

section
variable {s : State} {p : Port} {f : Fields} {h : Handle} {b : Booking}
  {term countdown retries : Nat} {n : Option Notice}

/-- RENEW of a GRANTED record (R66). -/
theorem cmdRenew_granted (hh : f.selector.toNat = h.number)
    (hx : s.record h = .granted b (clientOf p f) term countdown retries n) :
    cmdRenew p f s =
      ((s.setRecord h (.granted b (clientOf p f) (renewedTerm f term) (renewedTerm f term)
          (s.outputRow b.output).retryAllowance n)).countChange,
        ⟨.done, h.number, renewedTerm f term, (s.outputRow b.output).retryAllowance⟩) := by
  have hheld : (s.record h).holder? = some (.client (clientOf p f)) := by rw [hx]; rfl
  simp only [cmdRenew, State.resolve_of_holder hh hheld, hx]

/-- RENEW of a TRIPPED record (R66). -/
theorem cmdRenew_tripped (hh : f.selector.toNat = h.number)
    (hx : s.record h = .tripped b (clientOf p f) term countdown retries n) :
    cmdRenew p f s =
      ((s.setRecord h (.tripped b (clientOf p f) (renewedTerm f term) (renewedTerm f term)
          (s.outputRow b.output).retryAllowance n)).countChange,
        ⟨.done, h.number, renewedTerm f term, (s.outputRow b.output).retryAllowance⟩) := by
  have hheld : (s.record h).holder? = some (.client (clientOf p f)) := by rw [hx]; rfl
  simp only [cmdRenew, State.resolve_of_holder hh hheld, hx]

/-- RENEW of a WAITING record (R67). -/
theorem cmdRenew_waiting (hh : f.selector.toNat = h.number)
    (hx : s.record h = .waiting b (clientOf p f) term countdown) :
    cmdRenew p f s =
      ((s.setRecord h (.waiting b (clientOf p f) (renewedTerm f term)
          (s.port p).patience)).countChange,
        ⟨.done, h.number, (s.port p).patience, 0⟩) := by
  have hheld : (s.record h).holder? = some (.client (clientOf p f)) := by rw [hx]; rfl
  simp only [cmdRenew, State.resolve_of_holder hh hheld, hx]

end

/-- Settles O41: the handle resolves for its holder, and RENEW is read off the record's state. -/
theorem renewRestartsCountdown : Obligations.RenewRestartsCountdown := by
  intro s p f h ht hh renewed
  refine ⟨fun b term d k n hx => ?_, fun b term d k n hx => ?_, fun b term d hx => ?_⟩
  · exact State.takes_exec_of_run ht (by decide) (cmdRenew_granted hh hx)
  · exact State.takes_exec_of_run ht (by decide) (cmdRenew_tripped hh hx)
  · exact State.takes_exec_of_run ht (by decide) (cmdRenew_waiting hh hx)

/-! ## The old record of a claim (R78) -/

/-- A notice put in place of one owed to the same party joins the end of that party's order, which
so is not empty (R104, R105, R107). -/
theorem State.postNotice_same_party (s : State) (h : Handle) (n : Notice) (reason : Reason) :
    s.postNotice h (some n) ⟨reason, n.owedTo⟩ = s.onPort n.owedTo.port (fun ps =>
      { ps with noticeOrder := ps.noticeOrder.erase h ++ [h], attnLow := true }) := by
  have hline : ∀ l : List Handle, (!(l ++ [h]).isEmpty) = true := by simp
  simp only [State.postNotice, State.dropNotice, State.onPort_onPort, PortState.withOrder, hline]

/-- An old record that carries a notice ends TAKEN_OVER, its final notice in place of that one
(R78). -/
theorem State.giveWay_of_notice {s : State} {old : Handle} {n : Notice} (held : Booking)
    (hn : (s.record old).notice? = some n) :
    s.giveWay old held =
      ((s.leaveGrants old held).onPort n.owedTo.port (fun ps =>
        { ps with noticeOrder := ps.noticeOrder.erase old ++ [old], attnLow := true })).setRecord
          old (.ended held ⟨.takenOver, n.owedTo⟩) := by
  simp only [State.giveWay, hn, State.postNotice_same_party]

/-- An old record without a notice is freed (R78). -/
theorem State.giveWay_of_no_notice {s : State} {old : Handle} (held : Booking)
    (hn : (s.record old).notice? = none) :
    s.giveWay old held = (s.leaveGrants old held).setRecord old .free := by
  simp only [State.giveWay, hn]

/-! ## REQUEST for a device-held output (R76 to R79) -/

/-- Where a record is FREE, one of them is the lowest (R4). -/
theorem State.exists_lowestFree {s : State} (hfree : ∃ k, s.record k = .free) :
    ∃ h, s.lowestFree = some h := by
  obtain ⟨k, hk⟩ := hfree
  refine Option.ne_none_iff_exists'.1 fun hnone => ?_
  simpa [hk, Record.isFree] using State.lowestFree_eq_none.1 hnone k

/-- A REQUEST that Table 2-4 refuses in none of its steps 1 to 6, for an output whose lease is
device-held, is a claim of that lease (R10 to R13). -/
theorem cmdRequest_deviceHeld {s : State} {p : Port} {f : Fields} {o : Output} {old h : Handle}
    (ho : f.selector.toNat = o.val) (hbar : (s.channel o).barred = false)
    (hpos : 0 < f.valueA.toNat) (hceil : f.valueA.toNat ≤ (s.outputRow o).ceiling)
    (hterm : 0 < f.valueB.toNat) (hcov : s.covering o = some old)
    (hheld : (s.record old).holder? = some .device)
    (hquota : s.counted p < (s.portRow p).quota) (hfree : s.lowestFree = some h) :
    cmdRequest p f s = s.requestClaim p f o old h := by
  have hvalues : ¬ (f.valueA.toNat = 0 ∨ (s.outputRow o).ceiling < f.valueA.toNat
      ∨ f.valueB.toNat = 0) := by omega
  simp only [cmdRequest, outputOf_eq_some ho, hbar, Bool.false_eq_true, if_false, if_neg hvalues,
    hcov, hheld, State.requestAdmit, if_neg (Nat.not_le.2 hquota), hfree]

/-- A claim fits untested at or below the held current, and above it if the increase fits (R77). -/
theorem State.requestClaim_fits {s : State} {p : Port} {f : Fields} {o : Output} {old h : Handle}
    {held : Booking} (hb : (s.record old).booking? = some held)
    (hfits : f.valueA.toNat ≤ held.current
      ∨ s.fits (s.outputRow o).rail f.cls (f.valueA.toNat - held.current) = true) :
    s.requestClaim p f o old h = s.handOver p f o old held h := by
  have htest : (decide ((s.asked f o).current ≤ held.current)
      || s.fits (s.asked f o).rail (s.asked f o).cls ((s.asked f o).current - held.current))
        = true := by
    rw [Bool.or_eq_true, decide_eq_true_eq]
    exact hfits
  simp only [State.requestClaim, hb, if_pos htest]

/-- The new lease takes the lowest record that is FREE once the old one has given way (R78). -/
theorem State.handOver_eq {s : State} {p : Port} {f : Fields} {o : Output} {old h h0 : Handle}
    {held : Booking} (hfree : (s.giveWay old held).lowestFree = some h) :
    s.handOver p f o old held h0 =
      (((((s.giveWay old held).setRecord h
          (if (s.record old).isTripped then s.claimedTripped p f (s.asked f o)
            else s.grantedRecord p f (s.asked f o))).joinGrants h (s.asked f o)).scan
          (s.outputRow o).rail).countChange,
        ⟨.granted, h.number, f.valueA.toNat, old.number⟩) := by
  simp only [State.handOver, hfree, Option.getD_some]
  rfl

/-- Settles O38: steps 1 to 7 of Table 2-4 let the claim through, it fits, and the lease is handed
over to the record that is lowest once the old one has given way. -/
theorem claimTakesOver : Obligations.ClaimTakesOver := by
  intro s p f o old h held ht ho hbar hpos hceil hterm hcov hdevice hb hquota hsome hfits
    left gone b lease hfree hlow
  have hgone : s.giveWay old held = gone := by
    cases hn : (s.record old).notice? with
    | none => simp only [gone, hn]; exact State.giveWay_of_no_notice held hn
    | some n => simp only [gone, hn]; exact State.giveWay_of_notice held hn
  obtain ⟨h0, hh0⟩ := State.exists_lowestFree hsome
  have hlowest : (s.giveWay old held).lowestFree = some h := by
    rw [hgone]; exact State.lowestFree_of_free hfree hlow
  have hrun := calc s.run .request p f
    _ = s.requestClaim p f o old h0 :=
      cmdRequest_deviceHeld ho hbar hpos hceil hterm hcov hdevice hquota hh0
    _ = s.handOver p f o old held h0 := State.requestClaim_fits hb hfits
    _ = _ := State.handOver_eq hlowest
  rw [hgone] at hrun
  exact State.takes_exec_of_run ht (by decide) hrun

end Sys2Proof.Machine
end

section
/-! PROOFS. The Profile Store's staging record: STAGE FIELD, LOAD STAGE and READ ROW, and the write
that WRITE ROW puts in flight. -/

namespace Sys2Proof.Machine

/-! ## Rows and fields by number (R126, Table 12-6) -/

/-- A selector of 0 to 29 names the row of its number (R126). -/
@[simp] theorem RowId.ofNumber_val (k : Fin 30) :
    RowId.ofNumber k.val = some (RowId.ofFin k) := by
  simp only [RowId.ofNumber, dif_pos k.isLt]

/-- A selector above 29 names no row (R126). -/
theorem RowId.ofNumber_eq_none {n : Nat} (h : 29 < n) : RowId.ofNumber n = none := by
  simp only [RowId.ofNumber, dif_neg (Nat.not_lt.2 h)]

/-- The number of a row condition (Table 12-5). -/
theorem Condition.number_eq (c : Condition) : c.number = if c = .good then 0 else 1 := by
  cases c <;> rfl

/-- The search of a list in an order finds the entry that no earlier one forestalls. -/
theorem find?_eq_some_of_pairwise {α : Type} {r : α → α → Prop} {q : α → Bool} {l : List α} {a : α}
    (hl : l.Pairwise r) (ha : a ∈ l) (hq : q a = true) (hlow : ∀ b ∈ l, r b a → q b = false) :
    l.find? q = some a := by
  obtain ⟨before, after, rfl⟩ := List.append_of_mem ha
  rw [List.find?_eq_some_iff_append]
  refine ⟨hq, before, after, rfl, fun b hb => ?_⟩
  have hba : r b a := (List.pairwise_append.1 hl).2.2 b hb a List.mem_cons_self
  rw [hlow b (List.mem_append_left _ hb) hba]
  rfl

/-- The field numbers of a row rise. -/
theorem RowId.fieldNumbers_pairwise (i : RowId) : i.fieldNumbers.Pairwise (· < ·) := by
  cases i <;> simp [RowId.fieldNumbers]

/-- A row has the fields of its kind (Table 12-6). -/
theorem RowWrite.fields_map_fst (w : RowWrite) : w.fields.map Prod.fst = w.id.fieldNumbers := by
  cases w <;> rfl

/-- The fields of a row stand in the order of their numbers. -/
theorem RowWrite.fields_pairwise (w : RowWrite) : w.fields.Pairwise (fun e d => e.1 < d.1) :=
  List.pairwise_map.1 (w.fields_map_fst ▸ w.id.fieldNumbers_pairwise)

/-- A field of a row is the one its number finds. -/
theorem RowWrite.field?_of_mem {w : RowWrite} {j : Fin 13} {v : Nat} (h : (j, v) ∈ w.fields) :
    w.field? j.val = some v := by
  have hfind : w.fields.find? (fun e => e.1.val = j.val) = some (j, v) :=
    find?_eq_some_of_pairwise w.fields_pairwise h (by simp)
      (fun e _ he => decide_eq_false (Nat.ne_of_lt he))
  simp only [RowWrite.field?, hfind, Option.map_some]

/-! ## STAGE FIELD (R133) -/

/-- STAGE FIELD of a field of the staging record (R133). -/
theorem cmdStageField_field {f : Fields} {k : Fin 13} (p : Port) (s : State)
    (hk : f.selector.toNat = k.val) :
    cmdStageField p f s = ({ s with staging := s.staging.set k.val f.valueA.toNat k.isLt },
      ⟨.done, 0, f.valueA.toNat, k.val⟩) := by
  simp only [cmdStageField, hk, dif_pos k.isLt]

/-- STAGE FIELD of a selector that names no field (R133). -/
theorem cmdStageField_badValue {f : Fields} (p : Port) (s : State) (h : 12 < f.selector.toNat) :
    cmdStageField p f s = (s, ⟨.badValue, 0, 0, 0⟩) := by
  simp only [cmdStageField, dif_neg (Nat.not_lt.2 h), State.refuse, Reply.only]

/-! ## LOAD STAGE (R134) -/

/-- After fields in the order of their numbers are staged, each number among them has its field, and
each other what it had. -/
theorem stageAll_get {l : List (Fin 13 × Nat)} (hl : l.Pairwise (fun e d => e.1 < d.1))
    (staging : Vector Nat 13) (j : Fin 13) :
    (stageAll staging l).get j =
      ((l.find? (fun e => e.1.val = j.val)).map (fun e => e.2)).getD (staging.get j) := by
  induction l generalizing staging with
  | nil => rfl
  | cons e es ih =>
    obtain ⟨hfirst, hrest⟩ := List.pairwise_cons.1 hl
    rw [stageAll, ih hrest, vector_get_set]
    by_cases hj : e.1 = j
    · have hnone : es.find? (fun d => d.1.val = j.val) = none :=
        List.find?_eq_none.2 fun d hd => by
          simpa [← hj] using Fin.val_ne_of_ne (ne_of_gt (hfirst d hd))
      simp [hj, hnone]
    · have hval : e.1.val ≠ j.val := Fin.val_ne_of_ne hj
      simp [hj, hval]

/-- LOAD STAGE of a row (R134). -/
theorem cmdLoadStage_row {f : Fields} {k : Fin 30} (p : Port) (s : State)
    (hk : f.selector.toNat = k.val) :
    cmdLoadStage p f s =
      ({ s with staging := stageAll s.staging (s.shadow.row (RowId.ofFin k)).fields },
        ⟨.done, 0, k.val, if s.shadow.cond (RowId.ofFin k) = Condition.good then 0 else 1⟩) := by
  simp only [cmdLoadStage, hk, RowId.ofNumber_val, Condition.number_eq]

/-- LOAD STAGE of a selector that names no row (R134). -/
theorem cmdLoadStage_badValue {f : Fields} (p : Port) (s : State) (h : 29 < f.selector.toNat) :
    cmdLoadStage p f s = (s, ⟨.badValue, 0, 0, 0⟩) := by
  simp only [cmdLoadStage, RowId.ofNumber_eq_none h, State.refuse, Reply.only]

/-! ## READ ROW (R135) -/

/-- READ ROW of a field of the row's kind (R135). -/
theorem cmdReadRow_field {f : Fields} {k : Fin 30} {v : Nat} (p : Port) {s : State}
    (hk : f.selector.toNat = k.val)
    (hv : (s.shadow.row (RowId.ofFin k)).field? f.valueA.toNat = some v) :
    cmdReadRow p f s =
      (s, ⟨.done, 0, v, if s.shadow.cond (RowId.ofFin k) = Condition.good then 0 else 1⟩) := by
  simp only [cmdReadRow, hk, RowId.ofNumber_val, hv, Condition.number_eq]

/-- READ ROW of a field that is not of the row's kind (R135). -/
theorem cmdReadRow_otherField {f : Fields} {k : Fin 30} (p : Port) {s : State}
    (hk : f.selector.toNat = k.val)
    (hv : (s.shadow.row (RowId.ofFin k)).field? f.valueA.toNat = none) :
    cmdReadRow p f s = (s, ⟨.badValue, 0, 0, 0⟩) := by
  simp only [cmdReadRow, hk, RowId.ofNumber_val, hv, State.refuse, Reply.only]

/-- READ ROW of a selector that names no row (R135). -/
theorem cmdReadRow_badValue {f : Fields} (p : Port) (s : State) (h : 29 < f.selector.toNat) :
    cmdReadRow p f s = (s, ⟨.badValue, 0, 0, 0⟩) := by
  simp only [cmdReadRow, RowId.ofNumber_eq_none h, State.refuse, Reply.only]

/-- Settles O52: each frame is carried out at the Profile Store alone, and its reply is read off the
case of the selector; the fields staged by LOAD STAGE stand in the order of their numbers, so that
none overwrites another. -/
theorem stagingAndReading : Obligations.StagingAndReading := by
  refine fun s p f => ⟨fun ht => ⟨fun k hk => ?_, fun hsel => ?_⟩,
    fun ht => ⟨fun k hk => ?_, fun hsel => ?_⟩,
    fun ht => ⟨fun k v hk hv => ?_, fun k hk hv => ?_, fun hsel => ?_⟩⟩
  · exact State.takes_exec_of_run ht (by decide) (cmdStageField_field p s hk)
  · exact State.takes_exec_of_run ht (by decide) (cmdStageField_badValue p s hsel)
  · exact ⟨{ s with staging := stageAll s.staging (s.shadow.row (RowId.ofFin k)).fields },
      State.takes_exec_of_run ht (by decide) (cmdLoadStage_row p s hk),
      stageAll_get (RowWrite.fields_pairwise _) s.staging⟩
  · exact State.takes_exec_of_run ht (by decide) (cmdLoadStage_badValue p s hsel)
  · exact State.takes_exec_of_run ht (by decide) (cmdReadRow_field p hk hv)
  · exact State.takes_exec_of_run ht (by decide) (cmdReadRow_otherField p hk hv)
  · exact State.takes_exec_of_run ht (by decide) (cmdReadRow_badValue p s hsel)

/-! ## The staged fields as a row (R136, R137) -/

/-- Step 3 of WRITE ROW finds the lowest staged field of the kind that is out of range (R136). -/
theorem State.stagedFault_eq_some {s : State} {i : RowId} {j : Fin 13} (hj : j ∈ i.fieldNumbers)
    (hbad : ¬ fieldInRange j (s.staged j) (s.staged 6) = true)
    (hlow : ∀ m, m ∈ i.fieldNumbers → m < j → fieldInRange m (s.staged m) (s.staged 6) = true) :
    s.stagedFault i = some j :=
  find?_eq_some_of_pairwise i.fieldNumbers_pairwise hj (by simpa using hbad)
    (fun m hm hmj => by simp [hlow m hm hmj])

/-- Step 3 of WRITE ROW finds no fault where the fields of the row's kind are in range (R136). -/
theorem State.stagedFault_eq_none {s : State} {i : RowId} :
    s.stagedFault i = none ↔
      ∀ j, j ∈ i.fieldNumbers → fieldInRange j (s.staged j) (s.staged 6) = true := by
  simp [State.stagedFault]

/-- The staged fields of a row's kind make a write of that row. -/
@[simp] theorem State.stagedRow_id (s : State) (i : RowId) : (s.stagedRow i).id = i := by
  cases i <;> rfl

/-- A staged flag of 0 or 1 is kept as an output's in-use flag. -/
theorem toNat_decide_eq_one {v : Nat} (h : v ≤ 1) : (decide (v = 1)).toNat = v := by
  interval_cases v <;> rfl

/-- A staged 0 or 1 is kept as a lapse action. -/
theorem LapseAction.number_ofStaged {v : Nat} (h : v ≤ 1) :
    (if v = 1 then LapseAction.hold else .off).number = v := by
  interval_cases v <;> rfl

/-- A staged 0 or 1 is kept as a role. -/
theorem Role.number_ofStaged {v : Nat} (h : v ≤ 1) :
    (if v = 1 then Role.lease else .full).number = v := by
  interval_cases v <;> rfl

/-- A row of staged fields in range holds each under its number: the values a row has for a flag, a
rail and a role are those of the range (R137). -/
theorem State.stagedRow_fields {s : State} {i : RowId} (h : s.stagedFault i = none) :
    (s.stagedRow i).fields = i.fieldNumbers.map (fun j => (j, s.staged j)) := by
  have hall := State.stagedFault_eq_none.1 h
  cases i with
  | output n =>
    have hinUse : s.staged 0 ≤ 1 := of_decide_eq_true (hall 0 (by simp [RowId.fieldNumbers]))
    have hrail : s.staged 1 ≤ 3 := of_decide_eq_true (hall 1 (by simp [RowId.fieldNumbers]))
    have hlapse : s.staged 3 ≤ 1 := of_decide_eq_true (hall 3 (by simp [RowId.fieldNumbers]))
    have hkept : (Fin.ofNat 4 (s.staged 1)).val = s.staged 1 := Nat.mod_eq_of_lt (by omega)
    simp only [State.stagedRow, RowWrite.fields, RowId.fieldNumbers, List.map_cons, List.map_nil,
      toNat_decide_eq_one hinUse, hkept, LapseAction.number_ofStaged hlapse]
  | rail r => rfl
  | port p =>
    have hrole : s.staged 10 ≤ 1 := of_decide_eq_true (hall 10 (by simp [RowId.fieldNumbers]))
    simp only [State.stagedRow, RowWrite.fields, RowId.fieldNumbers, List.map_cons, List.map_nil,
      Role.number_ofStaged hrole]

/-- A row of staged fields in range has each staged field of its kind (R137). -/
theorem State.stagedRow_field? {s : State} {i : RowId} (h : s.stagedFault i = none) {j : Fin 13}
    (hj : j ∈ i.fieldNumbers) : (s.stagedRow i).field? j.val = some (s.staged j) := by
  apply RowWrite.field?_of_mem
  rw [State.stagedRow_fields h]
  exact List.mem_map_of_mem hj

/-- Step 4 of WRITE ROW refuses a staged role LEASE where the other port is LEASE or its row BAD
(R136). -/
theorem State.leaseRefused_eq_true {s : State} {i : RowId} {q : Port} (hi : i = .port q)
    (hrole : s.staged 10 = 1)
    (hother : (s.portRow q.other).role = .lease ∨ (s.shadow.port q.other).cond = .bad) :
    s.leaseRefused i = true := by
  subst hi
  simpa [State.leaseRefused, hrole] using hother

/-- Step 4 of WRITE ROW passes every other row: a staged role LEASE leaves a FULL port (R136). -/
theorem State.leaseRefused_eq_false {s : State} {i : RowId}
    (h : ∀ q, i = .port q → s.staged 10 = 1 →
      (s.portRow q.other).role = .full ∧ (s.shadow.port q.other).cond = .good) :
    s.leaseRefused i = false := by
  cases i with
  | output n => rfl
  | rail r => rfl
  | port q =>
    by_cases hrole : s.staged 10 = 1
    · obtain ⟨hfull, hgood⟩ := h q rfl hrole
      simp [State.leaseRefused, hfull, hgood]
    · simp [State.leaseRefused, hrole]

/-! ## WRITE ROW (R136, R137) -/

/-- Step 1: a selector that names no row. -/
theorem cmdWriteRow_noRow {f : Fields} (p : Port) (s : State) (h : 29 < f.selector.toNat) :
    cmdWriteRow p f s = (s, ⟨.badValue, 0, 0, 0⟩) := by
  simp only [cmdWriteRow, RowId.ofNumber_eq_none h, State.refuse, Reply.only]

section
variable {s : State} {f : Fields} {k : Fin 30} (p : Port) (hk : f.selector.toNat = k.val)
include hk

/-- Step 2: a write is in flight. -/
theorem cmdWriteRow_storeBusy (hw : s.write ≠ none) :
    cmdWriteRow p f s = (s, ⟨.storeBusy, 0, 0, 0⟩) := by
  simp only [cmdWriteRow, hk, RowId.ofNumber_val, if_pos (Option.isSome_iff_ne_none.2 hw),
    State.refuse, Reply.only]

/-- Step 3: a staged field of the row's kind is out of range. -/
theorem cmdWriteRow_fieldFault {j : Fin 13} (hw : s.write = none)
    (hfault : s.stagedFault (RowId.ofFin k) = some j) :
    cmdWriteRow p f s = (s, ⟨.badValue, 0, j.val, 1⟩) := by
  simp only [cmdWriteRow, hk, RowId.ofNumber_val, hw, Option.isSome_none, Bool.false_eq_true,
    if_false, hfault]

/-- Step 4: a staged role LEASE would leave no FULL port. -/
theorem cmdWriteRow_leaseRefused (hw : s.write = none)
    (hfault : s.stagedFault (RowId.ofFin k) = none)
    (hlease : s.leaseRefused (RowId.ofFin k) = true) :
    cmdWriteRow p f s = (s, ⟨.badValue, 0, 10, 2⟩) := by
  simp only [cmdWriteRow, hk, RowId.ofNumber_val, hw, Option.isSome_none, Bool.false_eq_true,
    if_false, hfault, hlease, if_true]

/-- A row that passes every check is put in flight, and the port's slow command with it (R137,
R161). -/
theorem cmdWriteRow_pending (hw : s.write = none)
    (hfault : s.stagedFault (RowId.ofFin k) = none)
    (hlease : s.leaseRefused (RowId.ofFin k) = false) :
    cmdWriteRow p f s =
      ({ s with write := some ⟨p, s.stagedRow (RowId.ofFin k)⟩ }.onPort p (fun ps =>
        { ps with slow := some .writeRow }), ⟨.pending, 0, k.val, 0⟩) := by
  simp only [cmdWriteRow, hk, RowId.ofNumber_val, hw, Option.isSome_none, Bool.false_eq_true,
    if_false, hfault, hlease]

end

/-- Settles O54: the checks are met in their order, each refusal by the first that fails, and the row
put in flight holds the staged fields as each is in range. -/
theorem writeRowStartsWrite : Obligations.WriteRowStartsWrite := by
  intro s p f ht refused
  have answered : ∀ reply, cmdWriteRow p f s = (s, reply) → refused reply := fun _ hrun =>
    State.takes_exec_of_run ht (by decide) hrun
  refine ⟨fun hsel => answered _ (cmdWriteRow_noRow p s hsel), ?_⟩
  intro k hk i numbers inRange
  refine ⟨fun hw => answered _ (cmdWriteRow_storeBusy p hk hw), fun hw =>
    ⟨fun j hj hbad hlow => ?_, fun hall => ?_⟩⟩
  · exact answered _ (cmdWriteRow_fieldFault p hk hw (State.stagedFault_eq_some hj hbad hlow))
  · have hfault : s.stagedFault i = none := State.stagedFault_eq_none.2 hall
    refine ⟨fun q hi hrole hother => ?_, fun hfull => ?_⟩
    · exact answered _ (cmdWriteRow_leaseRefused p hk hw hfault
        (State.leaseRefused_eq_true hi hrole hother))
    · exact ⟨s.stagedRow i, s.stagedRow_id i, fun _ => State.stagedRow_field? hfault,
        State.takes_exec_of_run ht (by decide)
          (cmdWriteRow_pending p hk hw hfault (State.leaseRefused_eq_false hfull))⟩

end Sys2Proof.Machine
end

section
/-! PROOFS. The commands of the Mode Controller that keep the table, and SET PATIENCE: OPEN, CLOSE and
IDENTIFY. -/

namespace Sys2Proof.Machine

/-! ## OPEN -/

/-- OPEN is refused while a row write is in flight (R148). -/
theorem cmdOpen_storeBusy (p : Port) (f : Fields) {s : State} (hw : s.write ≠ none) :
    cmdOpen p f s = (s, ⟨.storeBusy, 0, 0, 0⟩) := by
  simp only [cmdOpen, Option.isSome_iff_ne_none.2 hw, if_true, State.refuse, Reply.only]

/-- OPEN with no write in flight enters SERVICE and counts the bad rows and the barred outputs
(R148). -/
theorem cmdOpen_done (p : Port) (f : Fields) {s : State} (hw : s.write = none) :
    cmdOpen p f s = ({ s with mode := .service }, ⟨.done, 0, s.shadow.badRows,
      (List.finRange 24).countP (fun n => (s.channel n).barred)⟩) := by
  simp only [cmdOpen, hw, Option.isSome_none, Bool.false_eq_true, if_false, State.barredOutputs]

/-! ## CLOSE -/

/-- The records that are not FREE, counted by their state rather than by its test. -/
theorem State.notFree_eq (s : State) :
    s.notFree = (List.finRange 48).countP (fun h => s.record h ≠ .free) :=
  List.countP_congr fun h _ => by simp [← Record.isFree_iff]

/-- The table is empty exactly when every record is FREE (R149). -/
theorem State.notFree_eq_zero_iff {s : State} : s.notFree = 0 ↔ ∀ h, s.record h = .free := by
  simp [State.notFree_eq, List.countP_eq_zero]

/-- CLOSE of an empty table enters SETUP and abandons what either port was capturing (R124, R149). -/
theorem cmdClose_done (p : Port) (f : Fields) {s : State} (hfree : ∀ h, s.record h = .free) :
    cmdClose p f s =
      (({ s with mode := .setup }.onPort .a (fun ps => { ps with capture := .idle })).onPort .b
        (fun ps => { ps with capture := .idle }), ⟨.done, 0, 0, 0⟩) := by
  rw [cmdClose, if_pos (State.notFree_eq_zero_iff.2 hfree)]
  rfl

/-- CLOSE is refused while a record is not FREE, with the number of these and of the ENDED ones
(R149). -/
theorem cmdClose_notEmpty (p : Port) (f : Fields) {s : State} (htaken : ∃ h, s.record h ≠ .free) :
    cmdClose p f s = (s, ⟨.notEmpty, 0,
      (List.finRange 48).countP (fun h => s.record h ≠ .free),
      (List.finRange 48).countP (fun h => (s.record h).isEnded)⟩) := by
  have hne : s.notFree ≠ 0 := mt State.notFree_eq_zero_iff.1 (not_forall.2 htaken)
  rw [cmdClose, if_neg hne, State.notFree_eq, State.endedCount]

/-- Settles O57: OPEN turns on the write in flight, CLOSE on whether a record is taken. -/
theorem openAndClose : Obligations.OpenAndClose := by
  refine ⟨fun s p f ht => ⟨fun hw => ?_, fun hw => ?_⟩,
    fun s p f ht => ⟨fun hfree => ?_, fun htaken => ?_⟩⟩
  · exact State.takes_exec_of_run ht (by decide) (cmdOpen_storeBusy p f hw)
  · exact State.takes_exec_of_run ht (by decide) (cmdOpen_done p f hw)
  · exact State.takes_exec_of_run ht (by decide) (cmdClose_done p f hfree)
  · exact State.takes_exec_of_run ht (by decide) (cmdClose_notEmpty p f htaken)

/-! ## IDENTIFY and SET PATIENCE -/

/-- IDENTIFY is every role's and is taken in every mode, so an admitted one is carried out (R152). -/
theorem State.takes_identify {s : State} {p : Port} {f : Fields} (h : s.admits p f = true) :
    s.takes p .identify f = true := by
  have hrole : Command.identify.isSupervisor = false := rfl
  have hmode : Command.identify.takenIn s.mode = true := by cases s.mode <;> rfl
  rw [State.takes, h, hrole, hmode]
  rfl

/-- IDENTIFY reports the part, its revision, the mode and the bad rows (R152, Table 12-7). -/
theorem cmdIdentify_eq (p : Port) (f : Fields) (s : State) :
    cmdIdentify p f s =
      (s, ⟨.done, 0, 6680, 512 + s.mode.number * 128 + s.shadow.badRows⟩) := rfl

/-- SET PATIENCE refuses a patience of 0 (R59). -/
theorem cmdSetPatience_badValue (p : Port) {f : Fields} (s : State) (hv : f.valueA = 0) :
    cmdSetPatience p f s = (s, ⟨.badValue, 0, 0, 0⟩) := by
  have hzero : f.valueA.toNat = 0 := congrArg BitVec.toNat hv
  rw [cmdSetPatience, if_pos hzero]
  rfl

/-- SET PATIENCE writes the patience of the port that asks (R59). -/
theorem cmdSetPatience_done (p : Port) {f : Fields} (s : State) (hv : f.valueA ≠ 0) :
    cmdSetPatience p f s = (s.onPort p (fun ps => { ps with patience := f.valueA.toNat }),
      ⟨.done, 0, f.valueA.toNat, 0⟩) := by
  have hpos : f.valueA.toNat ≠ 0 := fun hzero => hv (BitVec.eq_of_toNat_eq hzero)
  rw [cmdSetPatience, if_neg hpos]

/-- Settles O59: IDENTIFY needs no more than to be admitted; SET PATIENCE turns on its value. -/
theorem identifyAndSetPatience : Obligations.IdentifyAndSetPatience := by
  refine fun s p f => ⟨fun hadmits => ?_, fun ht => ⟨fun hv => ?_, fun hv => ?_⟩⟩
  · exact State.takes_exec_of_run (State.takes_identify hadmits) (by decide) (cmdIdentify_eq p f s)
  · exact State.takes_exec_of_run ht (by decide) (cmdSetPatience_badValue p s hv)
  · exact State.takes_exec_of_run ht (by decide) (cmdSetPatience_done p s hv)

end Sys2Proof.Machine
end

section
/-! PROOFS. The packed reply values and image parts by their bit positions (R170). -/

namespace Sys2Proof.Machine

/-! ## Items side by side -/

/-- The value of a field followed by `n` lower bits. -/
theorem toNat_append_eq {m n : Nat} (x : BitVec m) (y : BitVec n) :
    (x ++ y).toNat = x.toNat * 2 ^ n + y.toNat := by
  rw [BitVec.toNat_append, ← Nat.shiftLeft_add_eq_or_of_lt y.isLt, Nat.shiftLeft_eq]

/-- A number that fits its field is not cut by it. -/
theorem toNat_ofNat_of_lt {n v : Nat} (h : v < 2 ^ n) : (BitVec.ofNat n v).toNat = v := by
  rw [BitVec.toNat_ofNat, Nat.mod_eq_of_lt h]

/-- Bits not named, and the bits of an absent item, add nothing (R170). -/
theorem toNat_unnamed (n : Nat) : (0 : BitVec n).toNat = 0 := BitVec.toNat_zero

/-- A presence bit that is set. -/
theorem toNat_present : (1 : BitVec 1).toNat = 1 := rfl

/-! ## The numbers fit their fields -/

theorem Record.stateNumber_lt (r : Record) : r.stateNumber < 2 ^ 3 := by
  cases r <;> simp [Record.stateNumber]

theorem Record.holderKind_lt (r : Record) : r.holderKind < 2 ^ 2 := by
  unfold Record.holderKind
  split
  · decide
  · split <;> decide
  · decide

theorem Record.holderTag_lt (r : Record) : r.holderTag < 2 ^ 4 := by
  unfold Record.holderTag
  split
  · next c _ => exact c.tag.isLt
  · decide

theorem Reason.number_lt (r : Reason) : r.number < 2 ^ 4 := by cases r <;> decide

theorem Health.number_lt (x : Health) : x.number < 2 ^ 2 := by cases x <;> decide

theorem Mode.number_lt (m : Mode) : m.number < 2 ^ 2 := by cases m <;> decide

/-- The class, 0 when absent, fits its two bits. -/
theorem Record.cls_getD_lt (r : Record) :
    (r.booking?.map (fun b => b.cls.val)).getD 0 < 2 ^ 2 := by
  cases r.booking? with
  | none => decide
  | some b => exact b.cls.isLt

/-! ## Items that several values share -/

/-- State, holder kind and tag stand side by side in LOOKUP OUTPUT and in part 0 of an image. -/
theorem Record.holderItems_toNat (r : Record) :
    (BitVec.ofNat 3 r.stateNumber ++ BitVec.ofNat 2 r.holderKind
      ++ BitVec.ofNat 4 r.holderTag).toNat =
      r.stateNumber * 64 + r.holderKind * 16 + r.holderTag := by
  simp only [toNat_append_eq, toNat_ofNat_of_lt r.stateNumber_lt,
    toNat_ofNat_of_lt r.holderKind_lt, toNat_ofNat_of_lt r.holderTag_lt]
  omega

/-- A booking's class under its presence bit (part 0 of an image). -/
theorem Booking.classItem_toNat (b : Booking) :
    (BitVec.ofNat 2 b.cls.val ++ (1 : BitVec 1)).toNat = b.cls.val * 2 + 1 := by
  rw [toNat_append_eq, toNat_ofNat_of_lt b.cls.isLt]
  rfl

/-- A booking's output and rail under their one presence bit (part 1 of an image). -/
theorem Booking.outputItems_toNat (b : Booking) :
    ((1 : BitVec 1) ++ BitVec.ofNat 5 b.output.val ++ BitVec.ofNat 2 b.rail.val).toNat =
      128 + b.output.val * 4 + b.rail.val := by
  have hout : b.output.val < 2 ^ 5 := by omega
  have hrail : b.rail.val < 2 ^ 2 := b.rail.isLt
  rw [toNat_append_eq, toNat_append_eq, toNat_ofNat_of_lt hout, toNat_ofNat_of_lt hrail,
    toNat_present]
  omega

/-- Retries left under their presence bit (part 1 of an image). -/
theorem retriesItem_toNat {k : Nat} (h : k ≤ 7) :
    ((1 : BitVec 1) ++ BitVec.ofNat 3 k).toNat = 8 + k := by
  have hk : k < 2 ^ 3 := by omega
  rw [toNat_append_eq, toNat_ofNat_of_lt hk]
  rfl

/-! ## The packed reply values (Table 12-7) -/

/-- LOOKUP OUTPUT value B. -/
theorem packLookup_eq_bits (r : Record) (barred : Bool) : packLookup r barred =
    (BitVec.ofNat 3 r.stateNumber ++ BitVec.ofNat 2 r.holderKind ++ BitVec.ofNat 4 r.holderTag
      ++ BitVec.ofNat 2 ((r.booking?.map (fun b => b.cls.val)).getD 0) ++ (0 : BitVec 1)
      ++ BitVec.ofBool barred).toNat := by
  rw [packLookup, toNat_append_eq, toNat_append_eq, toNat_append_eq, r.holderItems_toNat,
    toNat_ofNat_of_lt r.cls_getD_lt, BitVec.toNat_ofBool, toNat_unnamed]
  omega

/-- READ RAIL part 1 value B. -/
theorem packRail_eq_bits (health : Health) {waiters : Nat} (h : waiters ≤ 48) :
    packRail health waiters =
      ((0 : BitVec 5) ++ BitVec.ofNat 2 health.number ++ BitVec.ofNat 6 waiters).toNat := by
  have hw : waiters < 2 ^ 6 := by omega
  rw [packRail, toNat_append_eq, toNat_append_eq, toNat_ofNat_of_lt health.number_lt,
    toNat_ofNat_of_lt hw, toNat_unnamed]
  omega

/-- NEXT NOTICE value A. -/
theorem packNotice_eq_bits (n : Notice) : packNotice n =
    ((0 : BitVec 5) ++ BitVec.ofNat 4 n.reason.number
      ++ BitVec.ofNat 4 n.owedTo.tag.val).toNat := by
  rw [packNotice, toNat_append_eq, toNat_append_eq, toNat_ofNat_of_lt n.reason.number_lt,
    toNat_ofNat_of_lt n.owedTo.tag.isLt, toNat_unnamed]
  omega

/-- NEXT NOTICE value B. -/
theorem packNoticeCount_eq_bits (o : Output) {entries : Nat} (h : entries ≤ 48) :
    packNoticeCount o entries =
      (BitVec.ofNat 5 o.val ++ (0 : BitVec 2) ++ BitVec.ofNat 6 entries).toNat := by
  have ho : o.val < 2 ^ 5 := by omega
  have he : entries < 2 ^ 6 := by omega
  rw [packNoticeCount, toNat_append_eq, toNat_append_eq, toNat_ofNat_of_lt ho,
    toNat_ofNat_of_lt he, toNat_unnamed]
  omega

/-- IDENTIFY value B. -/
theorem packIdentify_eq_bits (m : Mode) {bad : Nat} (h : bad ≤ 30) : packIdentify m bad =
    (BitVec.ofNat 4 Config.revision ++ BitVec.ofNat 2 m.number ++ BitVec.ofNat 7 bad).toNat := by
  have hrev : Config.revision < 2 ^ 4 := by decide
  have hb : bad < 2 ^ 7 := by omega
  rw [packIdentify, toNat_append_eq, toNat_append_eq, toNat_ofNat_of_lt hrev,
    toNat_ofNat_of_lt m.number_lt, toNat_ofNat_of_lt hb]
  omega

/-! ## The image parts (Table 12-8) -/

/-- Value A of part 0 while the record has a class. -/
theorem Record.stateItems_booked (r : Record) (b : Booking) :
    r.stateNumber * 1024 + r.holderKind * 256 + r.holderTag * 16 + (b.cls.val * 4 + 2) =
      (BitVec.ofNat 3 r.stateNumber ++ BitVec.ofNat 2 r.holderKind ++ BitVec.ofNat 4 r.holderTag
        ++ (BitVec.ofNat 2 b.cls.val ++ (1 : BitVec 1)) ++ (0 : BitVec 1)).toNat := by
  rw [toNat_append_eq, toNat_append_eq, r.holderItems_toNat, b.classItem_toNat,
    toNat_unnamed]
  omega

/-- Value A of part 0 while the class is absent, and with its presence bit adds 0. -/
theorem Record.stateItems_unbooked (r : Record) :
    r.stateNumber * 1024 + r.holderKind * 256 + r.holderTag * 16 + 0 =
      (BitVec.ofNat 3 r.stateNumber ++ BitVec.ofNat 2 r.holderKind ++ BitVec.ofNat 4 r.holderTag
        ++ (0 : BitVec 3) ++ (0 : BitVec 1)).toNat := by
  rw [toNat_append_eq, toNat_append_eq, r.holderItems_toNat, toNat_unnamed, toNat_unnamed]
  omega

/-- Value B of part 0: the two ranks. -/
theorem rankItems_toNat {recordRank noticeRank : Nat} (hr : recordRank ≤ 48)
    (hn : noticeRank ≤ 48) : recordRank * 64 + noticeRank =
      ((0 : BitVec 1) ++ BitVec.ofNat 6 recordRank ++ BitVec.ofNat 6 noticeRank).toNat := by
  have hr' : recordRank < 2 ^ 6 := by omega
  have hn' : noticeRank < 2 ^ 6 := by omega
  rw [toNat_append_eq, toNat_append_eq, toNat_ofNat_of_lt hr', toNat_ofNat_of_lt hn',
    toNat_unnamed]
  omega

/-- Value A of part 3 while a notice is carried. -/
theorem Notice.items_toNat (n : Notice) :
    n.reason.number * 32 + portNumber n.owedTo.port * 16 + n.owedTo.tag.val =
      ((0 : BitVec 4) ++ BitVec.ofNat 4 n.reason.number
        ++ (match n.owedTo.port with | .a => (0 : BitVec 1) | .b => 1)
        ++ BitVec.ofNat 4 n.owedTo.tag.val).toNat := by
  have hport : portNumber n.owedTo.port =
      (match n.owedTo.port with | .a => (0 : BitVec 1) | .b => 1).toNat := by
    cases n.owedTo.port <;> rfl
  rw [toNat_append_eq, toNat_append_eq, toNat_append_eq, ← hport,
    toNat_ofNat_of_lt n.reason.number_lt, toNat_ofNat_of_lt n.owedTo.tag.isLt, toNat_unnamed]
  omega

/-- Settles O27: each value is its items side by side; an image's items are present or absent with
its record's booking, retries and notice. -/
theorem packedValuesByBitPosition : Obligations.PackedValuesByBitPosition := by
  refine ⟨packLookup_eq_bits, fun health _ h => packRail_eq_bits health h, packNotice_eq_bits,
    fun o _ h => packNoticeCount_eq_bits o h, fun m _ h => packIdentify_eq_bits m h,
    fun i hr hn => ?part0, fun i hk => ?part1, fun i => rfl, fun i => ?part3⟩
  case part0 =>
    refine congrArg some (Prod.ext ?_ (rankItems_toNat hr hn))
    cases i.record.booking? with
    | none => exact i.record.stateItems_unbooked
    | some b => exact i.record.stateItems_booked b
  case part1 =>
    refine congrArg some (Prod.ext rfl ?_)
    rw [toNat_append_eq, toNat_append_eq, toNat_unnamed]
    dsimp only
    congr 1
    · cases i.record.booking? with
      | none => rfl
      | some b =>
        simp only [Option.map_some, Option.getD_some, b.outputItems_toNat]
        omega
    · cases hret : i.record.retries? with
      | none => rfl
      | some k => exact (retriesItem_toNat (hk k hret)).symm
  case part3 =>
    refine congrArg some (Prod.ext ?_ rfl)
    cases i.record.notice? with
    | none => rfl
    | some n => exact n.items_toNat

end Sys2Proof.Machine
end

section
/-! PROOFS. What a step can do, said once: one act of a block, and then perhaps the end of
a frame. -/

namespace Sys2Proof.Machine

/-! ## The end of a frame -/

/-- The end of a frame at its port (R156, R164): chip select high, and the register and the last
sequence as given. -/
def State.endFrame (s : State) (p : Port) (reg : ReplyRegister) (last : Option Bool) : State :=
  s.onPort p (fun ps =>
    { ps with shifter := .idle, dataOut := none, register := reg, lastSeq := last })

/-- A frame that is not executed ends with the register's reply kept, a refusal of the intake with a
status alone (R164). -/
def State.KeepsOrRefuses (s : State) (p : Port) (reply : Reply) : Prop :=
  reply = (s.port p).register.reply ∨ ∃ st, reply = Reply.only st

/-- Chip select raised and nothing else done is the end of a frame. -/
theorem State.raiseSelect_eq_endFrame (s : State) (p : Port) :
    s.raiseSelect p = s.endFrame p (s.port p).register (s.port p).lastSeq := by cases p <;> rfl

theorem State.raiseSelect_markIntake (s : State) (p : Port) (k : Intake) :
    (s.raiseSelect p).markIntake p k =
      s.endFrame p { (s.port p).register with intake := k } (s.port p).lastSeq := by
  cases p <;> rfl

/-- A command that the intake takes is carried out on the state its frame found. -/
theorem State.raiseSelect_execute {s : State} {p : Port} {c : Command} (f : Fields)
    (hr : c.isSupervisor = true → (s.portRow p).role = .full) (hm : c.takenIn s.mode = true) :
    (s.raiseSelect p).execute p c c.code f =
      (s.run c p f).1.endFrame p ⟨c.code, f.seq, .taken, (s.run c p f).2⟩
        (c.lastSeqAfter f.seq) := by
  have hrole : (c.isSupervisor && decide ((s.portRow p).role = .lease)) = false := by
    cases hsup : c.isSupervisor with
    | false => rfl
    | true => rw [hr hsup]; rfl
  simp only [State.execute, State.raiseSelect_portRow, hrole, Bool.false_eq_true, if_false,
    State.raiseSelect_mode, hm, if_true, State.raiseSelect_run]
  exact State.raiseSelect_answer_eq _ _ _ _ _ _

/-- A frame carried out ends with the command done at its block and the reply in the register. -/
theorem State.CarriesOut.exec_eq {s : State} {i : Instr} {p : Port} {c : Command} {f : Fields}
    (h : s.CarriesOut i p c f) :
    exec i s = .next ((s.run c p f).1.endFrame p ⟨c.code, f.seq, .taken, (s.run c p f).2⟩
      (c.lastSeqAfter f.seq)) := by
  obtain ⟨hfound, hslow, hlast, hrole, hmode⟩ := h
  have hp : framePort? i = some p := by
    by_contra hp
    rw [State.found?, if_neg hp] at hfound
    cases hfound
  obtain ⟨named, hexec, hnamed⟩ := exec_frameEnd hp
  have hintake : (s.raiseSelect p).intake p ⟨c.code, f⟩ =
      (s.raiseSelect p).execute p c c.code f := by
    have hs : ((s.raiseSelect p).port p).slow = none := by cases p <;> exact hslow
    have hl : ((s.raiseSelect p).port p).lastSeq ≠ some f.seq := by cases p <;> exact hlast
    simp only [State.intake, c.code_ne_poll, if_false, hs, Option.isSome_none, Bool.false_eq_true,
      hl, Command.ofCode_code]
  have hend : s.frameEnd p named = (s.raiseSelect p).judge p (.good ⟨c.code, f⟩) := by
    rw [State.found?, if_pos hp] at hfound
    unfold State.frameEnd
    split at hfound
    · next hs =>
      split at hfound
      · cases hfound
      · next hr => rw [hs]; simp only [if_neg hr]; rw [(hnamed _).2 hfound]
    · next frame hs =>
      rw [hs]
      dsimp only
      split at hfound
      · next hc => rw [if_pos hc, (hnamed _).2 hfound]
      · next hc =>
        rw [if_neg hc]
        split at hfound
        · next content ha => cases hfound; rw [ha]
        · cases hfound
        · cases hfound
    · cases hfound
    · cases hfound
  rw [hexec, hend, State.judge, hintake, State.raiseSelect_execute f hrole hmode]

/-- A frame that sets the intake indicator alone ends with the reply kept. -/
theorem State.raiseSelect_markIntake_ends (s : State) (p : Port) (k : Intake) :
    ∃ reg last, s.KeepsOrRefuses p reg.reply
      ∧ (s.raiseSelect p).markIntake p k = s.endFrame p reg last :=
  ⟨{ (s.port p).register with intake := k }, _, .inl rfl, s.raiseSelect_markIntake p k⟩

/-- A good frame is carried out, or ends at its port alone. -/
theorem State.raiseSelect_intake_cases (s : State) (p : Port) (content : Content) :
    (∃ c : Command, content.code = c.code ∧ (s.port p).slow = none
        ∧ (s.port p).lastSeq ≠ some content.fields.seq
        ∧ (c.isSupervisor = true → (s.portRow p).role = .full) ∧ c.takenIn s.mode = true)
      ∨ ∃ reg last, s.KeepsOrRefuses p reg.reply
        ∧ (s.raiseSelect p).intake p content = s.endFrame p reg last := by
  have refused : ∀ code seq last st, ∃ reg last', s.KeepsOrRefuses p reg.reply
      ∧ (s.raiseSelect p).answer p code seq last (Reply.only st) = s.endFrame p reg last' :=
    fun _ _ _ st => ⟨_, _, .inr ⟨st, rfl⟩, s.raiseSelect_answer_eq _ _ _ _ _⟩
  unfold State.intake
  split
  · exact .inr (s.raiseSelect_markIntake_ends p _)
  · split
    · exact .inr (s.raiseSelect_markIntake_ends p _)
    · next hs =>
      split
      · exact .inr (s.raiseSelect_markIntake_ends p _)
      · next hl =>
        split
        · exact .inr (refused _ _ _ _)
        · next c hc =>
          unfold State.execute
          split
          · exact .inr (refused _ _ _ _)
          · next hr =>
            split
            · next hm =>
              refine .inl ⟨c, (Command.code_ofCode hc).symm, ?_, ?_, fun hsup => ?_, ?_⟩
              · cases p <;> simpa [State.raiseSelect] using hs
              · cases p <;> simpa [State.raiseSelect] using hl
              · cases hrole : (s.portRow p).role with
                | full => rfl
                | lease => simp [hsup, hrole] at hr
              · simpa using hm
            · exact .inr (refused _ _ _ _)

/-- What a frame can do: it is carried out, it is not heard, or it ends at its port alone. -/
theorem frame_ends {i : Instr} {p : Port} {s t : State} (h : framePort? i = some p)
    (ht : exec i s = .next t) :
    (∃ c f, s.CarriesOut i p c f) ∨ t = s
      ∨ ∃ reg last, s.KeepsOrRefuses p reg.reply ∧ t = s.endFrame p reg last := by
  obtain ⟨named, hexec, hnamed⟩ := exec_frameEnd h
  rw [hexec] at ht
  cases ht
  have judged : ∀ a, (∀ content, a = .good content → s.found? i p = some content) →
      (∃ c f, s.CarriesOut i p c f)
        ∨ ∃ reg last, s.KeepsOrRefuses p reg.reply
          ∧ (s.raiseSelect p).judge p a = s.endFrame p reg last := by
    intro a ha
    cases a with
    | badLength | badCrc => exact .inr (s.raiseSelect_markIntake_ends p _)
    | good content =>
      refine (s.raiseSelect_intake_cases p content).imp ?_ id
      rintro ⟨c, hc, hs, hl, hr, hm⟩
      exact ⟨c, content.fields, by rw [ha content rfl, ← hc], hs, hl, hr, hm⟩
  have raised : ∃ reg last, s.KeepsOrRefuses p reg.reply
      ∧ s.raiseSelect p = s.endFrame p reg last :=
    ⟨_, _, .inl rfl, s.raiseSelect_eq_endFrame p⟩
  unfold State.frameEnd
  split
  · next hs =>
    split
    · exact .inr (.inl rfl)
    · next hr =>
      refine (judged named fun content hg => ?_).imp id .inr
      rw [State.found?, if_pos h, hs]
      simp only [if_neg hr]
      exact (hnamed content).1 hg
  · exact .inr (.inr raised)
  · exact .inr (.inr raised)
  · next frame hs =>
    refine (judged _ fun content hg => ?_).imp id .inr
    rw [State.found?, if_pos h, hs]
    dsimp only
    split
    · next hc => rw [if_pos hc] at hg; exact (hnamed content).1 hg
    · next hc => rw [if_neg hc] at hg; rw [hg]

end Sys2Proof.Machine
end

section
/-! PROOFS. The acts of the blocks: everything that a step can do to the state, each with the
conditions under which it is done. -/

namespace Sys2Proof.Machine

/-! ## The acts -/

/-- Steps 1 to 6 of Table 2-4 pass a REQUEST for output `o`, with `h` the lowest FREE record (R10 to
R13). -/
structure State.Admits (s : State) (p : Port) (f : Fields) (o : Output) (h : Handle) : Prop where
  service : s.mode = .service
  unbarred : (s.channel o).barred = false
  current : 0 < f.valueA.toNat
  term : 0 < f.valueB.toNat
  quota : s.counted p < (s.portRow p).quota
  free : s.lowestFree = some h

/-- A record with its term, countdown and retries written anew (R66, R67). -/
def Record.renewed (x : Record) (term countdown retries : Nat) : Record :=
  match x with
  | .waiting b c _ _ => .waiting b c term countdown
  | .granted b c _ _ _ n => .granted b c term countdown retries n
  | .tripped b c _ _ _ n => .tripped b c term countdown retries n
  | other => other

/-- Who does an act: a command carried out on a port, the tick of the countdowns, or any other
happening. -/
inductive Doer
  | command (c : Command) (p : Port)
  | tick
  | happening

/-- The acts of the Lease Table, the Budget Unit, the Output Stage, the ports and the staging
record: no row of the profile, no mode and no slow command is written. -/
inductive State.ActsBy (s : State) : Doer → State → Prop
  /-- Nothing is done. -/
  | idle {w : Doer} : s.ActsBy w s
  /-- REQUEST is granted (R14). -/
  | grant {p : Port} {f : Fields} {o : Output} {h : Handle} (hadm : s.Admits p f o h)
      (hcov : s.covering o = none)
      (hfits : s.fits (s.asked f o).rail (s.asked f o).cls (s.asked f o).current = true) :
      s.ActsBy (.command .request p)
        (((s.setRecord h (s.grantedRecord p f (s.asked f o))).joinGrants h (s.asked f o)
        ).onChannel o Channel.turnOn).countChange
  /-- REQUEST waits (R15). -/
  | wait {p : Port} {f : Fields} {o : Output} {h : Handle} (hadm : s.Admits p f o h)
      (hcov : s.covering o = none)
      (hfits : s.fits (s.asked f o).rail (s.asked f o).cls (s.asked f o).current = false) :
      s.ActsBy (.command .request p) ((s.enterList h (s.asked f o)).setRecord h
        (.waiting (s.asked f o) (clientOf p f) f.valueB.toNat (s.port p).patience)).countChange
  /-- REQUEST claims a device-held lease (R76 to R79). -/
  | claim {p : Port} {f : Fields} {o : Output} {old h0 h : Handle} {held : Booking}
      (hadm : s.Admits p f o h0) (hcov : s.covering o = some old)
      (hdevice : (s.record old).isDeviceHeld = true) (hheld : (s.record old).booking? = some held)
      (hfits : (s.asked f o).current ≤ held.current ∨ s.fits (s.asked f o).rail (s.asked f o).cls
        ((s.asked f o).current - held.current) = true)
      (hfree : (s.giveWay old held).lowestFree = some h) :
      s.ActsBy (.command .request p) ((((s.giveWay old held).setRecord h
        (if (s.record old).isTripped then s.claimedTripped p f (s.asked f o)
          else s.grantedRecord p f (s.asked f o))).joinGrants h (s.asked f o)).scan
        (s.asked f o).rail).countChange
  /-- RELEASE (R17). -/
  | release {w : Doer} {h : Handle} {b : Booking} (hb : (s.record h).booking? = some b) :
      s.ActsBy w ((s.freeRecord h).scan b.rail).countChange
  /-- A record ends with a scan of its rail: FORCE END, patience and terms run out, a trip without
  retries (R18, R58, R69, R92). -/
  | finish {w : Doer} {h : Handle} {b : Booking} {reason : Reason}
      (hb : (s.record h).booking? = some b)
      (hended : (s.record h).isEnded = false) (hfinal : 3 < reason.number) :
      s.ActsBy w ((s.endRecord h reason).scan b.rail).countChange
  /-- RENEW (R66, R67). -/
  | renew {w : Doer} {h : Handle} {term countdown retries : Nat}
      (hterm : (s.record h).term? = some term ∨ 1 ≤ term ∧ term ≤ 8191)
      (hcount : countdown = term ∨ ∃ p, countdown = (s.port p).patience)
      (hretries : ∃ o, retries = (s.outputRow o).retryAllowance) :
      s.ActsBy w (s.setRecord h ((s.record h).renewed term countdown retries)).countChange
  /-- RESIZE to the present current (R40, log 15). -/
  | recount {w : Doer} : s.ActsBy w s.countChange
  /-- RESIZE of a waiter (R43). -/
  | resizeWaiter {w : Doer} {h : Handle} {b : Booking} {x : Nat}
      (hb : (s.record h).booking? = some b)
      (hw : (s.record h).isWaiting = true) (hpos : 1 ≤ x) (hx : x ≤ 8191) :
      s.ActsBy w ((s.setRecord h ((s.record h).withCurrent x)).scan b.rail).countChange
  /-- RESIZE to a lower current (R41). -/
  | resizeLower {w : Doer} {h : Handle} {b : Booking} {x : Nat}
      (hb : (s.record h).booking? = some b)
      (hc : (s.record h).isCommitting = true) (hpos : 1 ≤ x) (hx : x < b.current)
      (hx' : x ≤ 8191) :
      s.ActsBy w (((s.setRecord h ((s.record h).withCurrent x)).onRail b.rail (fun a =>
        { a with committed := a.committed - (b.current - x) })).scan b.rail).countChange
  /-- RESIZE to a higher current (R42). -/
  | resizeRaise {w : Doer} {h : Handle} {b : Booking} {x : Nat}
      (hb : (s.record h).booking? = some b)
      (hc : (s.record h).isCommitting = true) (hx : b.current < x) (hx' : x ≤ 8191)
      (hfits : s.fits b.rail b.cls (x - b.current) = true) :
      s.ActsBy w ((s.setRecord h ((s.record h).withCurrent x)).onRail b.rail (fun a =>
        { a with committed := a.committed + (x - b.current) })).countChange
  /-- ACK NOTICE of an ENDED record (R110). -/
  | ackEnded {w : Doer} {h : Handle} (hended : (s.record h).isEnded = true) :
      s.ActsBy w (s.freeRecord h).countChange
  /-- ACK NOTICE of any other (R111). -/
  | ackOther {w : Doer} {h : Handle} {n : Notice} (hn : (s.record h).notice? = some n)
      (hended : (s.record h).isEnded = false) :
      s.ActsBy w ((s.dropNotice h (some n)).setRecord h (s.record h).withoutNotice).countChange
  /-- LAPSE of a GRANTED record under HOLD (R70). -/
  | holdGranted {w : Doer} {h : Handle} {b : Booking} {c : Client} {term k : Nat}
      {n : Option Notice}
      (hx : s.record h = .granted b c term 0 k n) :
      s.ActsBy w ((s.postNotice h n ⟨.lapsedHeld, c⟩).setRecord h
        (.held b k (some ⟨.lapsedHeld, c⟩))).countChange
  /-- LAPSE of a TRIPPED record under HOLD (R71). -/
  | holdTripped {w : Doer} {h : Handle} {b : Booking} {c : Client} {term k : Nat}
      {n : Option Notice}
      (hx : s.record h = .tripped b c term 0 k n) :
      s.ActsBy w ((s.postNotice h n ⟨.lapsedHeld, c⟩).setRecord h
        (.deviceTripped b k (some ⟨.lapsedHeld, c⟩))).countChange
  /-- A trip of a GRANTED record takes a retry (R90). -/
  | tripGranted {w : Doer} {h : Handle} {b : Booking} {c : Client} {term d k : Nat}
      {n : Option Notice}
      (hx : s.record h = .granted b c term d (k + 1) n) :
      s.ActsBy w (((s.startRetry b).postNotice h n ⟨.tripped, c⟩).setRecord h
        (.tripped b c term d k (some ⟨.tripped, c⟩))).countChange
  /-- A trip of a HELD record takes a retry (R91). -/
  | tripHeld {w : Doer} {h : Handle} {b : Booking} {k : Nat} {n : Option Notice}
      (hx : s.record h = .held b (k + 1) n) :
      s.ActsBy w ((s.startRetry b).setRecord h (.deviceTripped b k n)).countChange
  /-- The retry delay ends (R94). -/
  | restart {w : Doer} {h : Handle} {o : Output} (hc : (s.record h).covers o = true)
      (ht : (s.record h).isTripped = true) :
      s.ActsBy w ((s.setRecord h (s.record h).restarted).onChannel o Channel.turnOn).countChange
  /-- TERM_TIMER_TICK (R63, R34). -/
  | tick (due : TermTick) : s.ActsBy .tick ((s.runCountdowns due.countdowns).runFilters due.filters)
  /-- RESTART (R150). -/
  | restartAll {p : Port} (hmode : s.mode = .service) : s.ActsBy (.command .restart p) s.restarted
  /-- A change of a rail's cap or health level, with the limit change that follows (R36). -/
  | limit {w : Doer} {r : Rail} {g : Account → Account}
      (hg : ∀ a, g a = { a with
        cap := (g a).cap, health := (g a).health, candidate := (g a).candidate
        present := (g a).present, full := (g a).full })
      (hcap : ∀ a, (g a).cap = a.cap ∨ (g a).cap ≤ 8191) :
      s.ActsBy w ((s.onRail r g).limitChange r (s.rail r).limit).1
  /-- A change of a rail's health inputs, and of its candidate (R33, R34). -/
  | filter {w : Doer} {r : Rail} {g : Account → Account}
      (hg : ∀ a, g a = { a with
        candidate := (g a).candidate, present := (g a).present, full := (g a).full }) :
      s.ActsBy w (s.onRail r g)
  /-- An edge of a fault input (R88, R100). -/
  | fault {w : Doer} {n : Output} {g : Channel → Channel}
      (hg : ∀ c, g c = { c with faultLow := (g c).faultLow, tripRaised := (g c).tripRaised })
      (hraised : ∀ c, (g c).tripRaised = true → c.tripRaised = true ∨ c.state = .on) :
      s.ActsBy w (s.onChannel n g)
  /-- RETRY_TIMER_TICK (R93). -/
  | retryTick {w : Doer} (due : BitVec 24) :
      s.ActsBy w { s with channels := Vector.ofFn (fun n : Output =>
        if due.getLsbD n.val then (s.channel n).lowerTimer else s.channel n) }
  /-- The pins of a port (R145, R156). -/
  | pins {p : Port} {g : PortState → PortState} {draws : Nat}
      (hg : ∀ ps, g ps = { ps with shifter := (g ps).shifter, dataOut := (g ps).dataOut }) :
      s.ActsBy .happening { s.onPort p g with freeDraws := draws }
  /-- CAPTURE (R118). -/
  | capture {c : Command} {p : Port} {first : Handle} {count : Nat} (hpos : 0 < count)
      (hcount : count ≤ 16)
      (hin : first.val + count ≤ 48) :
      s.ActsBy (.command c p)
        (s.onPort p (fun ps => { ps with capture := .copying first count [] }))
  /-- FLIP (R121). -/
  | flip {c : Command} {p : Port} {buffer : Buffer} (hc : (s.port p).capture = .complete buffer) :
      s.ActsBy (.command c p)
        (s.onPort p (fun ps => { ps with front := some buffer, capture := .idle }))
  /-- IMAGE_COPY (R119). -/
  | copy {p : Port} {first : Handle} {count : Nat} {images images' : List Image}
      (hc : (s.port p).capture = .copying first count images)
      (hi : images' = images ++ [s.image (slotAfter first images.length)]) :
      s.ActsBy .happening (s.onPort p (fun ps => { ps with
        capture := if images'.length < count then .copying first count images'
          else .complete ⟨first, images'⟩ }))
  /-- SET PATIENCE (R59). -/
  | patience {c : Command} {p : Port} {v : Nat} (hpos : 1 ≤ v) (hv : v ≤ 8191) :
      s.ActsBy (.command c p) (s.onPort p (fun ps => { ps with patience := v }))
  /-- STAGE FIELD and LOAD STAGE (R133, R134). -/
  | stage {w : Doer} {v : Vector Nat 13} (hv : s.InRange → ∀ k, v.get k ≤ 8191) :
      s.ActsBy w { s with staging := v }

/-- An act, whoever does it. -/
def State.Acts (s t : State) : Prop := ∃ w, s.ActsBy w t

theorem State.ActsBy.acts {s t : State} {w : Doer} (h : s.ActsBy w t) : s.Acts t := ⟨w, h⟩

theorem State.acts_self (s : State) : s.Acts s := ⟨.happening, .idle⟩

/-- A row write is put in flight for port `p` (R137, R161). -/
def State.startWrite (s : State) (p : Port) (i : RowId) : State :=
  { s with write := some { port := p, target := s.stagedRow i } }.onPort p (fun ps =>
    { ps with slow := some .writeRow })

/-- A RELOAD is begun for port `p` (R141, R161). -/
def State.startReload (s : State) (p : Port) : State :=
  { s with mode := .loading, load := some 0 }.onPort p (fun ps => { ps with slow := some .reload })

/-- SETUP is entered from SERVICE, the captures abandoned (R149). -/
def State.closed (s : State) : State :=
  { (s.abandonCapture .a).abandonCapture .b with mode := .setup }

/-- The shadow row of number `k` has been read from the array (R129). -/
def State.withRowRead (s : State) (k : Fin 30) : State :=
  { s with shadow := s.readRow (RowId.ofFin k) }

/-- The store after a row write that agreed or did not, the write no longer in flight
(R138, R139). -/
def State.stored (s : State) (agrees : Bool) (target : RowWrite) : State :=
  let stored :=
    if agrees then { s with array := s.array.write target, shadow := s.shadow.write target }
    else { s.leaveRemnant target with shadow := s.shadow.spoil target.id }
  { stored with write := none }

/-- A row write completed, with its hand-off and its reply (R138, R139). -/
def State.completed (s : State) (agrees : Bool) (w : WriteInFlight) : State :=
  ((s.stored agrees w.target).handOffRow w.target.id).endSlow w.port
    { status := if agrees then .done else .storeFail
      handle := 0, valueA := w.target.id.number, valueB := 0 }

/-- Cold reset begins for this cause (R145). -/
def State.coldReset (s : State) (cause : ResetCause) : State :=
  { s.enterColdReset with
    supplyLow := s.supplyLow || cause = .supply, resetLow := s.resetLow || cause = .resetPin }

/-- The acts of the Profile Store and the Mode Controller that write a row of the profile, the mode
or a slow command. -/
inductive State.StoreActsBy (s : State) : Doer → State → Prop
  /-- WRITE ROW (R137). -/
  | write {p : Port} {i : RowId} (hmode : s.mode = .setup) (hw : s.write = none)
      (hfault : s.stagedFault i = none) (hlease : s.leaseRefused i = false) :
      s.StoreActsBy (.command .writeRow p) (s.startWrite p i)
  /-- RELOAD (R141). -/
  | reload {p : Port} (hmode : s.mode = .setup) (hw : s.write = none) :
      s.StoreActsBy (.command .reload p) (s.startReload p)
  /-- OPEN (R148). -/
  | openPart {p : Port} (hmode : s.mode = .setup) (hw : s.write = none) :
      s.StoreActsBy (.command .openPart p) { s with mode := .service }
  /-- CLOSE (R149). -/
  | closePart {p : Port} (hmode : s.mode = .service) (hfree : ∀ h, s.record h = .free) :
      s.StoreActsBy (.command .closePart p) s.closed
  /-- ROW_READ of a row but the last (R129). -/
  | readRow {k : Fin 30} (hl : s.load = some k) (hk : k.val + 1 < 30) :
      s.StoreActsBy .happening { s.withRowRead k with load := some ⟨k.val + 1, hk⟩ }
  /-- ROW_READ of the last row (R129, R130). -/
  | endLoad (hl : s.load = some 29) : s.StoreActsBy .happening (s.withRowRead 29).endLoad
  /-- WRITE_ROW_COMPLETION (R138, R139). -/
  | complete {agrees : Bool} {w : WriteInFlight} (hw : s.write = some w) :
      s.StoreActsBy .happening (s.completed agrees w)
  /-- COLD_RESET_END (R146). -/
  | resetEnd (hin : s.inColdReset = true) :
      s.StoreActsBy .happening { s with supplyLow := false, resetLow := false, load := some 0 }

/-- An act of the store, whoever does it. -/
def State.StoreActs (s t : State) : Prop := ∃ w, s.StoreActsBy w t

theorem State.StoreActsBy.acts {s t : State} {w : Doer} (h : s.StoreActsBy w t) :
    s.StoreActs t := ⟨w, h⟩

/-! ## A command at its block is an act -/

/-- A handle that resolves is held by the asking party (R8). -/
theorem State.resolve_ok {s : State} {c : Client} {sel : BitVec 7} {h : Handle}
    (hr : s.resolve c sel = .ok h) :
    handleOf sel = some h ∧ (s.record h).holder? = some (.client c) := by
  unfold State.resolve at hr
  split at hr
  · cases hr
  · next k hk =>
    split at hr
    · next hheld => cases hr; exact ⟨hk, hheld⟩
    · repeat' split at hr
      all_goals cases hr

/-- A port-held record that is not WAITING is committing. -/
theorem Record.isCommitting_of_client {x : Record} {c : Client}
    (hc : x.holder? = some (.client c)) (hw : x.isWaiting = false) : x.isCommitting = true := by
  cases x <;> simp_all [Record.holder?, Record.isWaiting, Record.isCommitting]

/-- A covering record that no port holds is device-held. -/
theorem Record.isDeviceHeld_of_covers {x : Record} {o : Output} (hc : x.covers o = true)
    (hx : ∀ c, x.holder? ≠ some (.client c)) : x.isDeviceHeld = true := by
  cases x <;> simp_all [Record.holder?, Record.isDeviceHeld, Record.covers, Record.isWaiting,
    Record.isCommitting]

/-- A device-held record is not FREE. -/
theorem Record.ne_free_of_isDeviceHeld {x : Record} (h : x.isDeviceHeld = true) : x ≠ .free := by
  rintro rfl; simp [Record.isDeviceHeld, Record.holder?] at h

theorem valueA_le (f : Fields) : f.valueA.toNat ≤ 8191 := by have := f.valueA.isLt; omega

theorem valueB_le (f : Fields) : f.valueB.toNat ≤ 8191 := by have := f.valueB.isLt; omega

/-- The old record of a claim gives way, and no other record is written (R78). -/
theorem State.giveWay_record_ne (s : State) {old k : Handle} (held : Booking) (hk : k ≠ old) :
    (s.giveWay old held).record k = s.record k := by
  unfold State.giveWay
  split <;> rw [State.setRecord_record_ne _ _ hk] <;>
    simp [State.postNotice, State.leaveGrants]

/-- A claim that fits takes the lowest record that is FREE once the old one has given way (R78). -/
theorem State.handOver_acts {s : State} {p : Port} {f : Fields} {o : Output} {old h0 : Handle}
    {held : Booking} (hadm : s.Admits p f o h0) (hcov : s.covering o = some old)
    (hdevice : (s.record old).isDeviceHeld = true) (hheld : (s.record old).booking? = some held)
    (hfits : (s.asked f o).current ≤ held.current ∨ s.fits (s.asked f o).rail (s.asked f o).cls
        ((s.asked f o).current - held.current) = true) :
    s.ActsBy (.command .request p) (s.handOver p f o old held h0).1 := by
  have hne : h0 ≠ old := by
    rintro rfl
    exact Record.ne_free_of_isDeviceHeld hdevice
      (Record.isFree_iff.1 (State.lowestFree_eq_some.1 hadm.free).1)
  have hfree : (s.giveWay old held).record h0 = .free := by
    rw [State.giveWay_record_ne s held hne]
    exact Record.isFree_iff.1 (State.lowestFree_eq_some.1 hadm.free).1
  obtain ⟨h, hh⟩ := State.exists_lowestFree ⟨h0, hfree⟩
  rw [State.handOver_eq hh]
  exact .claim hadm hcov hdevice hheld hfits hh

/-- What a REQUEST comes to: it is refused, granted, it waits, or it claims (Table 2-4). -/
theorem cmdRequest_induction {P : State × Reply → Prop} (p : Port) (f : Fields) {s : State}
    (hmode : s.mode = .service) (refused : ∀ r, P (s, r))
    (granted : ∀ {o h}, s.Admits p f o h → s.covering o = none →
      s.fits (s.asked f o).rail (s.asked f o).cls (s.asked f o).current = true →
      P ((((s.setRecord h (s.grantedRecord p f (s.asked f o))).joinGrants h (s.asked f o)
        ).onChannel o Channel.turnOn).countChange, ⟨.granted, h.number, (s.asked f o).current, 0⟩))
    (waits : ∀ {o h v}, s.Admits p f o h → s.covering o = none →
      s.fits (s.asked f o).rail (s.asked f o).cls (s.asked f o).current = false →
      P (((s.enterList h (s.asked f o)).setRecord h
        (.waiting (s.asked f o) (clientOf p f) f.valueB.toNat (s.port p).patience)).countChange,
        ⟨.waiting, h.number, (s.asked f o).current, v⟩))
    (claims : ∀ {o old h0 held}, s.Admits p f o h0 → s.covering o = some old →
      (s.record old).isDeviceHeld = true → (s.record old).booking? = some held →
      ((s.asked f o).current ≤ held.current ∨ s.fits (s.asked f o).rail (s.asked f o).cls
        ((s.asked f o).current - held.current) = true) → P (s.handOver p f o old held h0)) :
    P (cmdRequest p f s) := by
  unfold cmdRequest
  split
  · exact refused _
  · next o ho =>
    split
    · exact refused _
    · next hbar =>
      split
      · exact refused _
      · next hvals =>
        have admitted : ∀ {h}, s.lowestFree = some h → ¬ (s.portRow p).quota ≤ s.counted p →
            s.Admits p f o h := fun hh hq =>
          ⟨hmode, by simpa using hbar, by omega, by omega, by omega, hh⟩
        split
        · next hcov =>
          unfold State.requestAdmit
          split
          · exact refused _
          · next hq =>
            split
            · exact refused _
            · next h hh =>
              dsimp only
              unfold State.requestNew
              dsimp only
              split
              · next hfits => exact granted (admitted hh hq) hcov hfits
              · next hfits =>
                split
                · exact waits (admitted hh hq) hcov (by simpa using hfits)
                · exact refused _
        · next old hcov =>
          split
          · exact refused _
          · next hheld =>
            have hdevice := Record.isDeviceHeld_of_covers (State.covering_covers hcov) hheld
            unfold State.requestAdmit
            split
            · exact refused _
            · next hq =>
              split
              · exact refused _
              · next h hh =>
                dsimp only
                unfold State.requestClaim
                dsimp only
                split
                · exact refused _
                · next held hb =>
                  split
                  · next hfits =>
                    exact claims (admitted hh hq) hcov hdevice hb
                      (by simpa only [Bool.or_eq_true, decide_eq_true_eq] using hfits)
                  · exact refused _

theorem cmdRequest_acts (p : Port) (f : Fields) {s : State} (hmode : s.mode = .service) :
    s.ActsBy (.command .request p) (cmdRequest p f s).1 :=
  cmdRequest_induction (P := fun x => s.ActsBy (.command .request p) x.1) p f hmode
    (fun _ => .idle) (fun hadm hcov hfits => .grant hadm hcov hfits)
    (fun hadm hcov hfits => .wait hadm hcov hfits) State.handOver_acts

theorem cmdRelease_acts (p : Port) (f : Fields) (s : State) : s.ActsBy (.command .release p)
    (cmdRelease p f s).1 := by
  unfold cmdRelease
  split
  · exact .idle
  · split
    · exact .idle
    · next hb => exact .release hb

theorem cmdRenew_acts (p : Port) (f : Fields) (s : State) : s.ActsBy (.command .renew p)
    (cmdRenew p f s).1 := by
  have hterm : ∀ {x : Record} {term}, x.term? = some term →
      x.term? = some (renewedTerm f term) ∨ 1 ≤ renewedTerm f term ∧ renewedTerm f term ≤ 8191 := by
    intro x term hx
    unfold renewedTerm
    split
    · exact .inl hx
    · exact .inr ⟨by omega, valueB_le f⟩
  unfold cmdRenew
  split
  · exact .idle
  · next h hh =>
    split
    · next b c term d hx =>
      have hact := State.ActsBy.renew (w := .command .renew p) (s := s) (h := h)
        (term := renewedTerm f term)
        (countdown := (s.port p).patience) (hterm (by rw [hx]; rfl)) (.inr ⟨p, rfl⟩)
        ⟨b.output, rfl⟩
      rw [hx] at hact
      exact hact
    · next b c term d k n hx =>
      have hact := State.ActsBy.renew (w := .command .renew p) (s := s) (h := h)
        (term := renewedTerm f term)
        (countdown := renewedTerm f term) (hterm (by rw [hx]; rfl)) (.inl rfl) ⟨b.output, rfl⟩
      rw [hx] at hact
      exact hact
    · next b c term d k n hx =>
      have hact := State.ActsBy.renew (w := .command .renew p) (s := s) (h := h)
        (term := renewedTerm f term)
        (countdown := renewedTerm f term) (hterm (by rw [hx]; rfl)) (.inl rfl) ⟨b.output, rfl⟩
      rw [hx] at hact
      exact hact
    · exact .idle

theorem cmdResize_acts (p : Port) (f : Fields) (s : State) : s.ActsBy (.command .resize p)
    (cmdResize p f s).1 := by
  unfold cmdResize
  split
  · exact .idle
  · next h hh =>
    split
    · exact .idle
    · next b hb =>
      have hle := valueA_le f
      dsimp only
      split
      · exact .idle
      · next hx =>
        split
        · exact .recount
        · next hne =>
          split
          · next hw => exact .resizeWaiter hb hw (by omega) hle
          · next hw =>
            have hc := Record.isCommitting_of_client (State.resolve_ok hh).2 (by simpa using hw)
            split
            · next hlt => exact .resizeLower hb hc (by omega) hlt hle
            · next hlt =>
              unfold State.resizeRaise
              split
              · next hfits => exact .resizeRaise hb hc (by omega) hle hfits
              · exact .idle

theorem cmdForceEnd_acts (p : Port) (f : Fields) (s : State) : s.ActsBy (.command .forceEnd p)
    (cmdForceEnd p f s).1 := by
  unfold cmdForceEnd
  split
  · exact .idle
  · split
    · exact .idle
    · next hb =>
      split
      · exact .idle
      · next he => exact .finish hb (by simpa using he) (by decide)

theorem cmdAckNotice_acts (p : Port) (f : Fields) (s : State) :
    s.ActsBy (.command .ackNotice p) (cmdAckNotice p f s).1 := by
  unfold cmdAckNotice
  split
  · exact .idle
  · split
    · exact .idle
    · next n hn =>
      split
      · dsimp only
        split
        · next he => exact .ackEnded he
        · next he => exact .ackOther hn (by simpa using he)
      · exact .idle

theorem cmdSetPatience_acts (p : Port) (f : Fields) (s : State) :
    s.ActsBy (.command .setPatience p) (cmdSetPatience p f s).1 := by
  unfold cmdSetPatience
  split
  · exact .idle
  · exact .patience (by omega) (valueA_le f)

theorem cmdSetCap_acts (p : Port) (f : Fields) (s : State) : s.ActsBy (.command .setCap p)
    (cmdSetCap p f s).1 := by
  unfold cmdSetCap
  split
  · exact .idle
  · exact .limit (fun _ => rfl) (fun _ => .inr (valueA_le f))

theorem handleOf_number {sel : BitVec 7} {h : Handle} (hh : handleOf sel = some h) :
    h.number = sel.toNat := by
  unfold handleOf at hh
  split at hh
  · next hrange => cases hh; exact Nat.sub_add_cancel hrange.1
  · cases hh

theorem cmdCapture_acts (p : Port) (f : Fields) (s : State) : s.ActsBy (.command .capture p)
    (cmdCapture p f s).1 := by
  unfold cmdCapture
  dsimp only
  split
  · exact .idle
  · split
    · exact .idle
    · next first hfirst =>
      split
      · exact .idle
      · next hin =>
        split
        · exact .idle
        · exact .capture (by omega) (by omega) (by simp only [Handle.number] at hin; omega)

theorem cmdFlip_acts (p : Port) (f : Fields) (s : State) : s.ActsBy (.command .flip p)
    (cmdFlip p f s).1 := by
  unfold cmdFlip
  split
  · exact .idle
  · exact .idle
  · next hc => exact .flip hc

/-- The fields of a row in range fit 13 bits (Table 9-1). -/
theorem RowWrite.InRange.fields_le {w : RowWrite} (hw : w.InRange) :
    ∀ e ∈ w.fields, e.2 ≤ 8191 := by
  cases w with
  | output n v =>
    obtain ⟨hceil, hallow, -, hdelay⟩ := hw
    have huse : v.inUse.toNat ≤ 1 := Bool.toNat_le v.inUse
    have hlapse : v.lapse.number ≤ 1 := by cases v.lapse <;> decide
    have hrail := v.rail.isLt
    simp only [RowWrite.fields, List.forall_mem_cons]
    refine ⟨?_, ?_, ?_, ?_, ?_, ?_, by simp⟩ <;> omega
  | rail r v =>
    obtain ⟨hnom, hred, hres, hfil⟩ := hw
    simp only [RowWrite.fields, List.forall_mem_cons]
    refine ⟨?_, ?_, ?_, ?_, by simp⟩ <;> omega
  | port p v =>
    obtain ⟨hquota, -, hpat⟩ := hw
    have hrole : v.role.number ≤ 1 := by cases v.role <;> decide
    simp only [RowWrite.fields, List.forall_mem_cons]
    refine ⟨?_, ?_, ?_, by simp⟩ <;> omega

/-- Staging numbers of 13 bits keeps the staging record in 13 bits. -/
theorem stageAll_le {l : List (Fin 13 × Nat)} (hl : ∀ e ∈ l, e.2 ≤ 8191) {v : Vector Nat 13}
    (hv : ∀ k, v.get k ≤ 8191) (k : Fin 13) : (stageAll v l).get k ≤ 8191 := by
  induction l generalizing v with
  | nil => exact hv k
  | cons e es ih =>
    refine ih (fun d hd => hl d (List.mem_cons_of_mem _ hd)) fun j => ?_
    rw [vector_get_set]
    split
    · exact hl e List.mem_cons_self
    · exact hv j

theorem cmdStageField_acts (p : Port) (f : Fields) (s : State) :
    s.ActsBy (.command .stageField p) (cmdStageField p f s).1 := by
  unfold cmdStageField
  split
  · next h =>
    refine .stage fun hs k => ?_
    have hset := vector_get_set s.staging ⟨f.selector.toNat, h⟩ k f.valueA.toNat
    rw [hset]
    split
    · exact valueA_le f
    · exact hs.staging k
  · exact .idle

theorem cmdLoadStage_acts (p : Port) (f : Fields) (s : State) :
    s.ActsBy (.command .loadStage p) (cmdLoadStage p f s).1 := by
  unfold cmdLoadStage
  split
  · exact .idle
  · next i _ => exact .stage fun hs => stageAll_le (hs.shadow i).fields_le hs.staging

theorem cmdRestart_acts (p : Port) (f : Fields) {s : State} (hmode : s.mode = .service) :
    s.ActsBy (.command .restart p) (cmdRestart p f s).1 := by
  rw [cmdRestart_eq]
  exact .restartAll hmode

theorem cmdWriteRow_acts (p : Port) (f : Fields) {s : State} (hmode : s.mode = .setup) :
    s.ActsBy (.command .writeRow p) (cmdWriteRow p f s).1 ∨ s.StoreActsBy (.command .writeRow p)
      (cmdWriteRow p f s).1 := by
  unfold cmdWriteRow
  split
  · exact .inl .idle
  · split
    · exact .inl .idle
    · next hw =>
      split
      · exact .inl .idle
      · next hfault =>
        split
        · exact .inl .idle
        · next hlease =>
          exact .inr (.write hmode (by simpa using hw) hfault (by simpa using hlease))

theorem cmdReload_acts (p : Port) (f : Fields) {s : State} (hmode : s.mode = .setup) :
    s.ActsBy (.command .reload p) (cmdReload p f s).1 ∨ s.StoreActsBy (.command .reload p)
      (cmdReload p f s).1 := by
  unfold cmdReload
  split
  · exact .inl .idle
  · next hw => exact .inr (.reload hmode (by simpa using hw))

theorem cmdOpen_acts (p : Port) (f : Fields) {s : State} (hmode : s.mode = .setup) :
    s.ActsBy (.command .openPart p) (cmdOpen p f s).1 ∨ s.StoreActsBy (.command .openPart p)
      (cmdOpen p f s).1 := by
  unfold cmdOpen
  split
  · exact .inl .idle
  · next hw => exact .inr (.openPart hmode (by simpa using hw))

theorem cmdClose_acts (p : Port) (f : Fields) {s : State} (hmode : s.mode = .service) :
    s.ActsBy (.command .closePart p) (cmdClose p f s).1 ∨ s.StoreActsBy (.command .closePart p)
      (cmdClose p f s).1 := by
  unfold cmdClose
  split
  · next hfree => exact .inr (.closePart hmode (State.notFree_eq_zero_iff.1 hfree))
  · exact .inl .idle

/-- The commands that write nothing at their blocks. -/
theorem State.run_reading {c : Command} (p : Port) (f : Fields) (s : State)
    (hc : c ∈ [Command.identify, .lookupOutput, .nextNotice, .readRail, .readImage, .readRow]) :
    (s.run c p f).1 = s := by
  simp only [List.mem_cons, List.not_mem_nil, or_false] at hc
  rcases hc with rfl | rfl | rfl | rfl | rfl | rfl
  · rfl
  · simp only [State.run, cmdLookupOutput]; repeat' split
    all_goals rfl
  · simp only [State.run, cmdNextNotice]; repeat' split
    all_goals rfl
  · simp only [State.run, cmdReadRail]; repeat' split
    all_goals rfl
  · simp only [State.run, cmdReadImage]; repeat' split
    all_goals rfl
  · simp only [State.run, cmdReadRow]; repeat' split
    all_goals rfl

/-- A command in a mode that takes it is an act of its block. -/
theorem State.run_acts {s : State} {c : Command} (p : Port) (f : Fields)
    (hm : c.takenIn s.mode = true) :
    s.ActsBy (.command c p) (s.run c p f).1 ∨ s.StoreActsBy (.command c p) (s.run c p f).1 := by
  cases c with
  | identify | lookupOutput | nextNotice | readRail | readImage | readRow =>
    rw [State.run_reading p f s (by simp)]; exact .inl .idle
  | request => exact .inl (cmdRequest_acts p f (by simpa [Command.takenIn] using hm))
  | release => exact .inl (cmdRelease_acts p f s)
  | renew => exact .inl (cmdRenew_acts p f s)
  | resize => exact .inl (cmdResize_acts p f s)
  | forceEnd => exact .inl (cmdForceEnd_acts p f s)
  | ackNotice => exact .inl (cmdAckNotice_acts p f s)
  | setPatience => exact .inl (cmdSetPatience_acts p f s)
  | setCap => exact .inl (cmdSetCap_acts p f s)
  | capture => exact .inl (cmdCapture_acts p f s)
  | flip => exact .inl (cmdFlip_acts p f s)
  | stageField => exact .inl (cmdStageField_acts p f s)
  | loadStage => exact .inl (cmdLoadStage_acts p f s)
  | restart => exact .inl (cmdRestart_acts p f (by simpa [Command.takenIn] using hm))
  | writeRow => exact cmdWriteRow_acts p f (by simpa [Command.takenIn] using hm)
  | reload => exact cmdReload_acts p f (by simpa [Command.takenIn] using hm)
  | openPart => exact cmdOpen_acts p f (by simpa [Command.takenIn] using hm)
  | closePart => exact cmdClose_acts p f (by simpa [Command.takenIn] using hm)

end Sys2Proof.Machine
end

section
/-! PROOFS. Every step is an act, and then perhaps the end of a frame. -/

namespace Sys2Proof.Machine

/-- What a command comes to at the blocks: an act of either kind, or the beginning of cold reset. -/
def State.Does (s : State) (i : Instr) (u : State) : Prop :=
  s.Acts u ∨ s.StoreActs u ∨ ∃ cause, i = .coldResetBegin cause ∧ u = s.coldReset cause

/-! ## The commands that are not frames -/

/-- A trip that is taken is a retry or the record's end (R89 to R92). -/
theorem State.tripRecord_acts (s : State) (h : Handle) : s.ActsBy .happening (s.tripRecord h) := by
  unfold State.tripRecord
  split
  · next hx => exact .finish (by rw [hx]; rfl) (by rw [hx]; rfl) (by decide)
  · next hx => exact .tripGranted hx
  · next hx => exact .finish (by rw [hx]; rfl) (by rw [hx]; rfl) (by decide)
  · next hx => exact .tripHeld hx
  · exact .idle

theorem execTrip_acts (n : Output) (s : State) :
    ∃ u, execTrip n s = .next u ∧ s.ActsBy .happening u := by
  unfold execTrip
  split
  · split
    · exact ⟨_, rfl, s.tripRecord_acts _⟩
    · exact ⟨_, rfl, .idle⟩
  · exact ⟨_, rfl, .idle⟩

theorem execRetryDelayEnd_acts (n : Output) (s : State) :
    ∃ u, execRetryDelayEnd n s = .next u ∧ s.ActsBy .happening u := by
  unfold execRetryDelayEnd
  split
  · split
    · next hc =>
      split
      · next ht => exact ⟨_, rfl, .restart (State.covering_covers hc) ht⟩
      · exact ⟨_, rfl, .idle⟩
    · exact ⟨_, rfl, .idle⟩
  · exact ⟨_, rfl, .idle⟩

theorem execPatienceExpiry_acts (h : Handle) (s : State) :
    ∃ u, execPatienceExpiry h s = .next u ∧ s.ActsBy .happening u := by
  unfold execPatienceExpiry
  split
  · next hx => exact ⟨_, rfl, .finish (by rw [hx]; rfl) (by rw [hx]; rfl) (by decide)⟩
  · exact ⟨_, rfl, .idle⟩

theorem execLapse_acts (h : Handle) (s : State) :
    ∃ u, execLapse h s = .next u ∧ s.ActsBy .happening u := by
  unfold execLapse
  split
  · next hx =>
    split
    · exact ⟨_, rfl, .finish (by rw [hx]; rfl) (by rw [hx]; rfl) (by decide)⟩
    · exact ⟨_, rfl, .holdGranted hx⟩
  · next hx =>
    split
    · exact ⟨_, rfl, .finish (by rw [hx]; rfl) (by rw [hx]; rfl) (by decide)⟩
    · exact ⟨_, rfl, .holdTripped hx⟩
  · exact ⟨_, rfl, .idle⟩

/-- Two changes of one account are one. -/
theorem State.onRail_onRail (s : State) (r : Rail) (f g : Account → Account) :
    (s.onRail r f).onRail r g = s.onRail r (fun a => g (f a)) := by
  simp [State.onRail, State.rail, Vector.get_eq_getElem]

/-- Taking a candidate writes the health level and the candidate alone (R34). -/
theorem Account.judgeCandidate_eq (a : Account) :
    a.judgeCandidate = { a with
      cap := a.judgeCandidate.cap, health := a.judgeCandidate.health
      candidate := a.judgeCandidate.candidate
      present := a.judgeCandidate.present, full := a.judgeCandidate.full } := by
  unfold Account.judgeCandidate
  split
  · rfl
  · split <;> rfl

@[simp] theorem Account.judgeCandidate_cap (a : Account) : a.judgeCandidate.cap = a.cap := by
  unfold Account.judgeCandidate
  split
  · rfl
  · split <;> rfl

/-- Taking a candidate right after a change of the inputs writes what either of them does. -/
theorem Account.judgeCandidate_inputs {a a' : Account} (h : a' = { a with
      candidate := a'.candidate, present := a'.present, full := a'.full }) :
    a'.judgeCandidate = { a with
      cap := a'.judgeCandidate.cap, health := a'.judgeCandidate.health
      candidate := a'.judgeCandidate.candidate
      present := a'.judgeCandidate.present, full := a'.judgeCandidate.full } := by
  conv_lhs => rw [Account.judgeCandidate_eq]
  have hrow : (a'.nominal, a'.reduced, a'.reserve, a'.filterTime) =
      (a.nominal, a.reduced, a.reserve, a.filterTime) := by rw [h]
  have hlists : (a'.committed, a'.waiting, a'.grantOrder) =
      (a.committed, a.waiting, a.grantOrder) := by rw [h]
  simp only [Prod.mk.injEq] at hrow hlists
  simp only [hrow, hlists]

/-- Taking a candidate is a change of the health level, or nothing (R34, R35). -/
theorem State.takeCandidate_acts (s : State) (r : Rail) : s.ActsBy .happening
    (s.takeCandidate r) := by
  unfold State.takeCandidate
  split
  · exact .idle
  · split
    · exact .limit Account.judgeCandidate_eq fun a => .inl a.judgeCandidate_cap
    · exact .idle

theorem execHealthLevelTaken_acts (r : Rail) (s : State) :
    ∃ u, execHealthLevelTaken r s = .next u ∧ s.ActsBy .happening u := by
  refine ⟨_, rfl, ?_⟩
  split
  · exact .idle
  · exact s.takeCandidate_acts r

/-- Taking a candidate right after a change of the inputs is one change of the account. -/
theorem State.takeCandidate_onRail_acts {s : State} {r : Rail} {g : Account → Account}
    (hg : ∀ a, g a = { a with
      candidate := (g a).candidate, present := (g a).present, full := (g a).full }) :
    s.ActsBy .happening ((s.onRail r g).takeCandidate r) := by
  unfold State.takeCandidate
  split
  · exact .filter hg
  · split
    · have hlimit : ((s.onRail r g).rail r).limit = (s.rail r).limit := by
        rw [State.onRail_rail_same, hg]; rfl
      rw [hlimit, State.onRail_onRail]
      refine .limit (fun a => ?_) (fun a => .inl ?_)
      · exact Account.judgeCandidate_inputs (hg a)
      · rw [Account.judgeCandidate_cap, hg]
    · exact .filter hg

theorem execHealthInputChange_acts (r : Rail) (present full : Bool) (s : State) :
    ∃ u, execHealthInputChange r present full s = .next u ∧ s.ActsBy .happening u := by
  refine ⟨_, rfl, ?_⟩
  split
  · exact .filter fun _ => rfl
  · unfold State.judgeReading
    dsimp only
    split
    · rw [State.onRail_onRail]; exact .filter fun _ => rfl
    · split
      · exact .filter fun _ => rfl
      · rw [State.onRail_onRail]; exact State.takeCandidate_onRail_acts fun _ => rfl

theorem execImageCopy_acts (p : Port) (s : State) :
    ∃ u, execImageCopy p s = .next u ∧ s.ActsBy .happening u := by
  unfold execImageCopy
  split
  · next hc => exact ⟨_, rfl, .copy hc rfl⟩
  · exact ⟨_, rfl, .idle⟩

theorem State.onPort_draws (s : State) (p : Port) (g : PortState → PortState) :
    s.onPort p g = { s.onPort p g with freeDraws := s.freeDraws } := by cases p <;> rfl

theorem execChipSelectFall_acts (p : Port) (s : State) :
    ∃ u, execChipSelectFall p s = .next u ∧ s.ActsBy .happening u := by
  refine ⟨_, rfl, ?_⟩
  rw [State.onPort_draws]
  refine .pins fun ps => ?_
  split
  · split <;> rfl
  · rfl

theorem execClockEdge_acts (p : Port) (edge : Edge) (s : State) :
    ∃ u, execClockEdge p edge s = .next u ∧ s.ActsBy .happening u := by
  unfold execClockEdge
  split
  · exact ⟨_, rfl, by rw [State.onPort_draws]; exact .pins fun _ => rfl⟩
  · exact ⟨_, rfl, by rw [State.onPort_draws]; exact .pins fun _ => rfl⟩
  · exact ⟨_, rfl, by rw [State.onPort_draws]; exact .pins fun _ => rfl⟩
  · refine ⟨_, rfl, ?_⟩
    have hdrawn : ∀ g, s.draw.2.onPort p g =
        { s.onPort p g with freeDraws := s.freeDraws + 1 } := fun g => by cases p <;> rfl
    rw [hdrawn]
    exact .pins fun _ => rfl
  · exact ⟨_, rfl, .idle⟩

theorem execRowRead_does (s : State) : ∃ u, execRowRead s = .next u ∧
    (s.ActsBy .happening u ∨ s.StoreActsBy .happening u) := by
  unfold execRowRead
  split
  · exact ⟨_, rfl, .inl .idle⟩
  · next k hl =>
    dsimp only
    split
    · next hk => exact ⟨_, rfl, .inr (.readRow hl hk)⟩
    · next hk =>
      obtain rfl : k = 29 := Fin.ext (by have := k.isLt; simp; omega)
      exact ⟨_, rfl, .inr (.endLoad hl)⟩

theorem execWriteRowCompletion_does (agrees : Bool) (s : State) :
    ∃ u, execWriteRowCompletion agrees s = .next u ∧
      (s.ActsBy .happening u ∨ s.StoreActsBy .happening u) := by
  unfold execWriteRowCompletion
  split
  · exact ⟨_, rfl, .inl .idle⟩
  · next w hw => exact ⟨_, rfl, .inr (.complete hw)⟩

theorem exec_coldResetBegin (cause : ResetCause) (s : State) :
    exec (.coldResetBegin cause) s = .next (s.coldReset cause) := by
  cases cause
  · simp only [exec, execColdResetBegin, State.coldReset, decide_true, Bool.or_true, reduceCtorEq,
      decide_false, Bool.or_false]
    rfl
  · simp only [exec, execColdResetBegin, State.coldReset, decide_true, Bool.or_true, reduceCtorEq,
      decide_false, Bool.or_false]
    rfl

theorem execColdResetEnd_does (s : State) :
    ∃ u, execColdResetEnd s = .next u ∧ (s.ActsBy .happening u ∨ s.StoreActsBy .happening u) := by
  unfold execColdResetEnd
  split
  · next hin => exact ⟨_, rfl, .inr (.resetEnd hin)⟩
  · exact ⟨_, rfl, .inl .idle⟩

/-- Whether a command is one of the four happenings of the Profile Store and of cold reset. -/
def storeHappening : Instr → Bool
  | .rowRead | .writeRowCompletion _ | .coldResetBegin _ | .coldResetEnd => true
  | _ => false

/-- Who acts in a command that is not a frame. -/
def doer : Instr → Doer
  | .termTimerTick _ => .tick
  | _ => .happening

/-- A command that is neither a frame nor of the store is an act. -/
theorem exec_acts {i : Instr} (hi : framePort? i = none) (hs : storeHappening i = false)
    (s : State) : ∃ u, exec i s = .next u ∧ s.ActsBy (doer i) u := by
  cases i with
  | chipSelectFall p => exact execChipSelectFall_acts p s
  | faultFall n =>
    refine ⟨_, rfl, .fault (fun c => ?_) fun c h => ?_⟩
    · unfold Channel.faultFalls; split <;> rfl
    · unfold Channel.faultFalls at h
      split at h
      · exact .inl h
      · simpa using h
  | faultRise n => exact ⟨_, rfl, .fault (fun _ => rfl) fun _ h => .inl h⟩
  | trip n => exact execTrip_acts n s
  | retryDelayEnd n => exact execRetryDelayEnd_acts n s
  | retryTimerTick due => exact ⟨_, rfl, .retryTick due⟩
  | termTimerTick due => exact ⟨_, rfl, .tick due⟩
  | patienceExpiry h => exact execPatienceExpiry_acts h s
  | lapse h => exact execLapse_acts h s
  | healthInputChange r present full => exact execHealthInputChange_acts r present full s
  | healthLevelTaken r => exact execHealthLevelTaken_acts r s
  | imageCopy p => exact execImageCopy_acts p s
  | clockEdge p edge => exact execClockEdge_acts p edge s
  | rowRead | writeRowCompletion | coldResetBegin | coldResetEnd => cases hs
  | _ => cases hi

/-- A command that is not a frame is an act of its doer, or begins cold reset. -/
theorem exec_of_not_frame {i : Instr} (hi : framePort? i = none) (s : State) :
    ∃ u, exec i s = .next u ∧ (s.ActsBy (doer i) u ∨ s.StoreActsBy .happening u
      ∨ ∃ cause, i = .coldResetBegin cause ∧ u = s.coldReset cause) := by
  have either : ∀ {o : Host.Outcome State Fault Refusal},
      (∃ u, o = .next u ∧ (s.ActsBy .happening u ∨ s.StoreActsBy .happening u)) →
      ∃ u, o = .next u ∧ (s.ActsBy .happening u ∨ s.StoreActsBy .happening u
        ∨ ∃ cause, i = .coldResetBegin cause ∧ u = s.coldReset cause) :=
    fun h => h.imp fun _ => And.imp_right (Or.imp_right .inl)
  cases hs : storeHappening i with
  | false => exact (exec_acts hi hs s).imp fun _ => And.imp_right .inl
  | true =>
    cases i with
    | rowRead => exact either (execRowRead_does s)
    | writeRowCompletion agrees => exact either (execWriteRowCompletion_does agrees s)
    | coldResetBegin cause => exact ⟨_, exec_coldResetBegin cause s, .inr (.inr ⟨cause, rfl, rfl⟩)⟩
    | coldResetEnd => exact either (execColdResetEnd_does s)
    | _ => cases hs

/-! ## Every command -/

/-- What a command can do: an act, and where it is a frame perhaps the frame's end at its port. -/
theorem exec_does (i : Instr) (s : State) : ∃ t, exec i s = .next t ∧ ∃ u, s.Does i u ∧
    (t = u ∨ ∃ p reg last, framePort? i = some p ∧ t = u.endFrame p reg last) := by
  cases hp : framePort? i with
  | none =>
    obtain ⟨u, hu, hdoes⟩ := exec_of_not_frame hp s
    exact ⟨u, hu, u, hdoes.imp (·.acts) (Or.imp_left (·.acts)), .inl rfl⟩
  | some p =>
    obtain ⟨named, hexec, -⟩ := exec_frameEnd hp
    rcases frame_ends hp (hexec s) with ⟨c, f, hc⟩ | ht | ⟨reg, last, -, ht⟩
    · exact ⟨_, hc.exec_eq, (s.run c p f).1,
        (State.run_acts p f hc.taken).imp (·.acts) fun h => .inl h.acts,
        .inr ⟨p, _, _, rfl, rfl⟩⟩
    · exact ⟨_, hexec s, s, .inl s.acts_self, .inl ht⟩
    · exact ⟨_, hexec s, s, .inl s.acts_self, .inr ⟨p, reg, last, rfl, ht⟩⟩

/-- An invariant that every act keeps, and the end of a frame, is kept by every command. -/
theorem exec_keeps {P Q : State → Prop} (hacts : ∀ {s t : State}, P s → s.Acts t → Q t)
    (hstore : ∀ {s t : State}, P s → s.StoreActs t → Q t)
    (hreset : ∀ {s : State} cause, P s → Q (s.coldReset cause))
    (hend : ∀ {s : State} p reg last, Q s → Q (s.endFrame p reg last))
    {i : Instr} {s t : State} (hs : P s) (ht : exec i s = .next t) : Q t := by
  obtain ⟨t', ht', u, hu, hend'⟩ := exec_does i s
  rw [ht] at ht'
  cases ht'
  have hQ : Q u := by
    rcases hu with hu | hu | ⟨cause, -, rfl⟩
    · exact hacts hs hu
    · exact hstore hs hu
    · exact hreset cause hs
  rcases hend' with rfl | ⟨p, reg, last, -, rfl⟩
  · exact hQ
  · exact hend p reg last hQ

/-- A step is the command at the front of the queue, or nothing. -/
theorem step_cases {s t : State} (h : step s = .next t) :
    t = s ∨ ∃ i rest, exec i { s with pending := rest } = .next t := by
  unfold step at h
  split at h
  · cases h; exact .inl rfl
  · exact .inr ⟨_, _, h⟩

/-- An invariant that does not read the queue, and that every act and the end of a frame keep, is
kept by every step. -/
theorem step_keeps {P : State → Prop}
    (hqueue : ∀ {s : State} rest, P s → P { s with pending := rest })
    (hacts : ∀ {s t : State}, P s → s.Acts t → P t)
    (hstore : ∀ {s t : State}, P s → s.StoreActs t → P t)
    (hreset : ∀ {s : State} cause, P s → P (s.coldReset cause))
    (hend : ∀ {s : State} p reg last, P s → P (s.endFrame p reg last))
    {s t : State} (hs : P s) (ht : step s = .next t) : P t := by
  rcases step_cases ht with rfl | ⟨i, rest, hexec⟩
  · exact hs
  · exact exec_keeps hacts hstore hreset hend (hqueue rest hs) hexec

end Sys2Proof.Machine
end

section
/-! PROOFS. What the acts of the Lease Table and the ports leave alone: the profile, the modes, the
slow commands and the barred flags. -/

namespace Sys2Proof.Machine

/-! ## Reading the state after a procedure of the Lease Table -/

@[simp] theorem State.postNotice_record (s : State) (h k : Handle) (n : Option Notice)
    (m : Notice) :
    (s.postNotice h n m).record k = s.record k := by simp [State.postNotice]

@[simp] theorem State.postNotice_rail (s : State) (h : Handle) (n : Option Notice) (m : Notice)
    (r : Rail) : (s.postNotice h n m).rail r = s.rail r := by simp [State.postNotice]

@[simp] theorem State.postNotice_channel (s : State) (h : Handle) (n : Option Notice) (m : Notice)
    (o : Output) : (s.postNotice h n m).channel o = s.channel o := by simp [State.postNotice]

@[simp] theorem State.joinGrants_record (s : State) (h k : Handle) (b : Booking) :
    (s.joinGrants h b).record k = s.record k := rfl

@[simp] theorem State.joinGrants_channel (s : State) (h : Handle) (b : Booking) (o : Output) :
    (s.joinGrants h b).channel o = s.channel o := rfl

@[simp] theorem State.joinGrants_port (s : State) (h : Handle) (b : Booking) (p : Port) :
    (s.joinGrants h b).port p = s.port p := rfl

@[simp] theorem State.leaveGrants_record (s : State) (h k : Handle) (b : Booking) :
    (s.leaveGrants h b).record k = s.record k := rfl

@[simp] theorem State.leaveGrants_channel (s : State) (h : Handle) (b : Booking) (o : Output) :
    (s.leaveGrants h b).channel o = s.channel o := rfl

@[simp] theorem State.leaveGrants_port (s : State) (h : Handle) (b : Booking) (p : Port) :
    (s.leaveGrants h b).port p = s.port p := rfl

@[simp] theorem State.enterList_record (s : State) (h k : Handle) (b : Booking) :
    (s.enterList h b).record k = s.record k := rfl

@[simp] theorem State.enterList_channel (s : State) (h : Handle) (b : Booking) (o : Output) :
    (s.enterList h b).channel o = s.channel o := rfl

@[simp] theorem State.enterList_port (s : State) (h : Handle) (b : Booking) (p : Port) :
    (s.enterList h b).port p = s.port p := rfl

theorem State.freeRecord_record (s : State) (h k : Handle) :
    (s.freeRecord h).record k = if h = k then .free else s.record k := by
  rw [State.freeRecord, State.setRecord_record]; simp

/-- Freeing a record turns off the channel it drives (R6, R87). -/
theorem State.freeRecord_channel (s : State) (h : Handle) (o : Output) :
    (s.freeRecord h).channel o =
      if (s.record h).isCommitting = true ∧ (s.record h).covers o = true then (s.channel o).turnOff
      else s.channel o := by
  simp only [State.freeRecord, State.setRecord_channel, State.dropNotice_channel,
    State.withdraw_channel]

theorem State.freeRecord_rail (s : State) (h : Handle) (r : Rail) :
    (s.freeRecord h).rail r = (s.withdraw h).rail r := by
  simp only [State.freeRecord, State.setRecord_rail, State.dropNotice_rail]

/-- A record whose final notice is owed to a party ends with it (R5). -/
theorem State.endRecord_of_owed {s : State} {h : Handle} {b : Booking} {c : Client}
    (reason : Reason) (hb : (s.record h).booking? = some b)
    (hc : (s.record h).owedParty? = some c) :
    s.endRecord h reason =
      ((s.withdraw h).postNotice h (s.record h).notice? ⟨reason, c⟩).setRecord h
        (.ended b ⟨reason, c⟩) := by
  simp only [State.endRecord, hb, hc]

/-- A record whose final notice is owed to nobody is freed (R5). -/
theorem State.endRecord_of_unowed {s : State} {h : Handle} (reason : Reason)
    (hc : (s.record h).owedParty? = none) : s.endRecord h reason = s.freeRecord h := by
  unfold State.endRecord
  split
  · next hc' => rw [hc] at hc'; cases hc'
  · rfl

/-- A FREE record is freed again. -/
theorem State.endRecord_of_unbooked {s : State} {h : Handle} (reason : Reason)
    (hb : (s.record h).booking? = none) : s.endRecord h reason = s.freeRecord h := by
  unfold State.endRecord
  split
  · next hb' _ => rw [hb] at hb'; cases hb'
  · rfl

/-- A record ends with a final notice owed to a party, or is freed (R5). -/
theorem State.endRecord_cases (s : State) (h : Handle) (reason : Reason) :
    s.endRecord h reason = s.freeRecord h ∨
      ∃ b c, (s.record h).booking? = some b ∧ (s.record h).owedParty? = some c
        ∧ s.endRecord h reason =
          ((s.withdraw h).postNotice h (s.record h).notice? ⟨reason, c⟩).setRecord h
            (.ended b ⟨reason, c⟩) := by
  cases hb : (s.record h).booking? with
  | none => exact .inl (State.endRecord_of_unbooked reason hb)
  | some b =>
    cases hc : (s.record h).owedParty? with
    | none => exact .inl (State.endRecord_of_unowed reason hc)
    | some c => exact .inr ⟨b, c, rfl, rfl, State.endRecord_of_owed reason hb hc⟩

theorem State.endRecord_record_ne (s : State) {h k : Handle} (reason : Reason) (hk : k ≠ h) :
    (s.endRecord h reason).record k = s.record k := by
  rcases s.endRecord_cases h reason with he | ⟨b, c, -, -, he⟩
  · rw [he, State.freeRecord_record, if_neg hk.symm]
  · rw [he, State.setRecord_record_ne _ _ hk]; simp

theorem State.endRecord_channel (s : State) (h : Handle) (reason : Reason) (o : Output) :
    (s.endRecord h reason).channel o =
      if (s.record h).isCommitting = true ∧ (s.record h).covers o = true then (s.channel o).turnOff
      else s.channel o := by
  rcases s.endRecord_cases h reason with he | ⟨b, c, -, -, he⟩
  · rw [he, State.freeRecord_channel]
  · rw [he, State.setRecord_channel, State.postNotice_channel, State.withdraw_channel]

theorem State.endRecord_rail (s : State) (h : Handle) (reason : Reason) (r : Rail) :
    (s.endRecord h reason).rail r = (s.withdraw h).rail r := by
  rcases s.endRecord_cases h reason with he | ⟨b, c, -, -, he⟩
  · rw [he, State.freeRecord_rail]
  · rw [he, State.setRecord_rail, State.postNotice_rail]

/-- What a limit change does: nothing, a scan, or a revocation and a scan, and perhaps a count of
the change (R36). -/
theorem State.limitChange_cases (s : State) (r : Rail) (old : Nat) :
    ∃ u, (u = s ∨ u = s.scan r ∨ u = (s.revoke r).scan r)
      ∧ ((s.limitChange r old).1 = u ∨ (s.limitChange r old).1 = u.countChange) := by
  have counted (u v : State) : u.countGrants v r = u ∨ u.countGrants v r = u.countChange := by
    unfold State.countGrants; split <;> simp
  unfold State.limitChange
  split
  · split
    · refine ⟨_, .inr (.inr rfl), ?_⟩
      dsimp only
      split
      · exact counted _ _
      · exact .inr rfl
    · split
      · exact ⟨_, .inr (.inl rfl), counted _ _⟩
      · exact ⟨s, .inl rfl, .inl rfl⟩
  · exact ⟨s, .inl rfl, .inl rfl⟩

/-! ## The barred flags -/

@[simp] theorem Channel.turnOff_barred (c : Channel) : c.turnOff.barred = c.barred := by
  unfold Channel.turnOff; split <;> rfl

@[simp] theorem Channel.turnOn_barred (c : Channel) : c.turnOn.barred = c.barred := rfl

/-- The barred flags are the same in both states. -/
def State.SameBarred (s t : State) : Prop := ∀ n, (t.channel n).barred = (s.channel n).barred

theorem State.SameBarred.refl (s : State) : s.SameBarred s := fun _ => rfl

theorem State.SameBarred.trans {s t u : State} (h : s.SameBarred t) (k : t.SameBarred u) :
    s.SameBarred u := fun n => (k n).trans (h n)

theorem State.onChannel_sameBarred (s : State) (o : Output) {g : Channel → Channel}
    (hg : ∀ c, (g c).barred = c.barred) : s.SameBarred (s.onChannel o g) := fun n => by
  rw [State.onChannel_channel]
  split
  · next ho => rw [hg, ho]
  · rfl

theorem State.freeRecord_sameBarred (s : State) (h : Handle) : s.SameBarred (s.freeRecord h) :=
  fun n => by rw [State.freeRecord_channel]; split <;> simp

theorem State.endRecord_sameBarred (s : State) (h : Handle) (reason : Reason) :
    s.SameBarred (s.endRecord h reason) :=
  fun n => by rw [State.endRecord_channel]; split <;> simp

theorem State.grantWaiter_sameBarred (s : State) (h : Handle) (b : Booking) (c : Client)
    (term : Nat) : s.SameBarred (s.grantWaiter h b c term) :=
  fun n => by rw [State.grantWaiter_channel]; split <;> simp

theorem State.scanFrom_sameBarred (r : Rail) (l : List Handle) (s : State) :
    s.SameBarred (s.scanFrom r l) := by
  induction l generalizing s with
  | nil => exact .refl s
  | cons h hs ih =>
    unfold State.scanFrom
    split
    · split
      · exact (s.grantWaiter_sameBarred h _ _ _).trans (ih _)
      · exact .refl s
    · exact .refl s

theorem State.scan_sameBarred (s : State) (r : Rail) : s.SameBarred (s.scan r) := by
  unfold State.scan
  split
  · exact State.scanFrom_sameBarred r _ s
  · exact .refl s

theorem State.revokeFrom_sameBarred (r : Rail) (l : List Handle) (s : State) :
    s.SameBarred (s.revokeFrom r l) := by
  induction l generalizing s with
  | nil => exact .refl s
  | cons h hs ih =>
    unfold State.revokeFrom
    split
    · exact (s.endRecord_sameBarred h _).trans (ih _)
    · exact .refl s

/-! ## What is kept outside the store and the modes -/

/-- The queue, the mode, the profile, the write and the load in flight, cold reset and the slow
commands are the same in both states. -/
structure State.KeepsStore (s t : State) : Prop where
  pending : t.pending = s.pending
  mode : t.mode = s.mode
  shadow : t.shadow = s.shadow
  array : t.array = s.array
  write : t.write = s.write
  load : t.load = s.load
  reset : t.inColdReset = s.inColdReset
  slow : ∀ p, (t.port p).slow = (s.port p).slow

theorem State.KeepsStore.refl (s : State) : s.KeepsStore s :=
  ⟨rfl, rfl, rfl, rfl, rfl, rfl, rfl, fun _ => rfl⟩

theorem State.KeepsStore.trans {s t u : State} (h : s.KeepsStore t) (k : t.KeepsStore u) :
    s.KeepsStore u :=
  ⟨k.pending.trans h.pending, k.mode.trans h.mode, k.shadow.trans h.shadow, k.array.trans h.array,
    k.write.trans h.write, k.load.trans h.load, k.reset.trans h.reset,
    fun p => (k.slow p).trans (h.slow p)⟩

/-- All of that and the barred flags are the same in both states. -/
structure State.Quiet (s t : State) : Prop extends s.KeepsStore t where
  barred : s.SameBarred t

theorem State.Quiet.refl (s : State) : s.Quiet s := ⟨.refl s, .refl s⟩

theorem State.Quiet.trans {s t u : State} (h : s.Quiet t) (k : t.Quiet u) : s.Quiet u :=
  ⟨h.toKeepsStore.trans k.toKeepsStore, h.barred.trans k.barred⟩

/-- What the procedures of the Lease Table write is none of it. -/
theorem State.TableOnly.quiet {s t : State} (h : s.TableOnly t) (hb : s.SameBarred t) :
    s.Quiet t where
  pending := h.pending
  mode := h.mode
  shadow := h.shadow
  array := by rw [h.rest]
  write := by rw [h.rest]
  load := by rw [h.rest]
  reset := by rw [h.rest]; rfl
  slow p := by rw [h.ports p]
  barred := hb

theorem State.countChange_quiet (s : State) : s.Quiet s.countChange :=
  ⟨⟨rfl, rfl, rfl, rfl, rfl, rfl, rfl, fun _ => rfl⟩, fun _ => rfl⟩

theorem State.Quiet.counted {s t : State} (h : s.Quiet t) : s.Quiet t.countChange :=
  h.trans t.countChange_quiet

theorem State.setRecord_quiet (s : State) (h : Handle) (x : Record) : s.Quiet (s.setRecord h x) :=
  (s.setRecord_tableOnly h x).quiet (.refl s)

theorem State.onRail_quiet (s : State) (r : Rail) (g : Account → Account) :
    s.Quiet (s.onRail r g) :=
  ⟨⟨rfl, rfl, rfl, rfl, rfl, rfl, rfl, fun _ => rfl⟩, fun _ => rfl⟩

theorem State.onChannel_quiet (s : State) (o : Output) {g : Channel → Channel}
    (hg : ∀ c, (g c).barred = c.barred) : s.Quiet (s.onChannel o g) :=
  (s.onChannel_tableOnly o g).quiet (s.onChannel_sameBarred o hg)

theorem State.onPort_quiet (s : State) (p : Port) {g : PortState → PortState}
    (hg : ∀ ps, (g ps).slow = ps.slow) : s.Quiet (s.onPort p g) where
  pending := State.onPort_pending ..
  mode := State.onPort_mode ..
  shadow := State.onPort_shadow ..
  array := State.onPort_array ..
  write := State.onPort_write ..
  load := State.onPort_load ..
  reset := State.onPort_inColdReset ..
  slow q := by
    rw [State.onPort_port]
    split
    · next hq => rw [hg, hq]
    · rfl
  barred n := by rw [State.onPort_channel]

theorem State.dropNotice_quiet (s : State) (h : Handle) (n : Option Notice) :
    s.Quiet (s.dropNotice h n) := (s.dropNotice_tableOnly h n).quiet fun k => by simp

theorem State.postNotice_quiet (s : State) (h : Handle) (n : Option Notice) (m : Notice) :
    s.Quiet (s.postNotice h n m) := (s.postNotice_tableOnly h n m).quiet fun k => by simp

theorem State.joinGrants_quiet (s : State) (h : Handle) (b : Booking) :
    s.Quiet (s.joinGrants h b) := s.onRail_quiet _ _

theorem State.freeRecord_quiet (s : State) (h : Handle) : s.Quiet (s.freeRecord h) :=
  (s.freeRecord_tableOnly h).quiet (s.freeRecord_sameBarred h)

theorem State.endRecord_quiet (s : State) (h : Handle) (reason : Reason) :
    s.Quiet (s.endRecord h reason) :=
  (s.endRecord_tableOnly h reason).quiet (s.endRecord_sameBarred h reason)

theorem State.scan_quiet (s : State) (r : Rail) : s.Quiet (s.scan r) :=
  (s.scan_tableOnly r).quiet (s.scan_sameBarred r)

theorem State.revoke_quiet (s : State) (r : Rail) : s.Quiet (s.revoke r) :=
  (s.revoke_tableOnly r).quiet (State.revokeFrom_sameBarred r _ s)

theorem State.limitChange_quiet (s : State) (r : Rail) (old : Nat) :
    s.Quiet (s.limitChange r old).1 := by
  obtain ⟨u, hu, heq⟩ := s.limitChange_cases r old
  have hq : s.Quiet u := by
    rcases hu with rfl | rfl | rfl
    · exact .refl _
    · exact s.scan_quiet r
    · exact (s.revoke_quiet r).trans (State.scan_quiet _ r)
  rcases heq with heq | heq
  · rw [heq]; exact hq
  · rw [heq]; exact hq.counted

theorem State.startRetry_quiet (s : State) (b : Booking) : s.Quiet (s.startRetry b) :=
  s.onChannel_quiet _ fun _ => rfl

theorem State.giveWay_quiet (s : State) (h : Handle) (b : Booking) : s.Quiet (s.giveWay h b) := by
  unfold State.giveWay
  split
  · exact ((s.onRail_quiet _ _).trans (State.postNotice_quiet _ _ _ _)).trans
      (State.setRecord_quiet _ _ _)
  · exact (s.onRail_quiet _ _).trans (State.setRecord_quiet _ _ _)

theorem State.restarted_quiet (s : State) : s.Quiet s.restarted where
  pending := by rw [State.restarted_eq]
  mode := by rw [State.restarted_eq]
  shadow := by rw [State.restarted_eq]
  array := by rw [State.restarted_eq]
  write := by rw [State.restarted_eq]
  load := by rw [State.restarted_eq]
  reset := by rw [State.restarted_eq]; simp only [State.inColdReset]
  slow p := by rw [State.restarted_port]
  barred n := by rw [State.restarted_channel]; split <;> simp

theorem State.withRecords_quiet (s : State) (v : Vector Record 48) :
    s.Quiet { s with records := v } :=
  ⟨⟨rfl, rfl, rfl, rfl, rfl, rfl, rfl, fun _ => rfl⟩, fun _ => rfl⟩

theorem State.withRails_quiet (s : State) (v : Vector Account 4) :
    s.Quiet { s with rails := v } :=
  ⟨⟨rfl, rfl, rfl, rfl, rfl, rfl, rfl, fun _ => rfl⟩, fun _ => rfl⟩

theorem State.withChannels_quiet (s : State) (v : Vector Channel 24)
    (hv : ∀ n, (v.get n).barred = (s.channel n).barred) : s.Quiet { s with channels := v } :=
  ⟨⟨rfl, rfl, rfl, rfl, rfl, rfl, rfl, fun _ => rfl⟩, hv⟩

theorem State.runFilters_quiet (s : State) (filters : BitVec 4) :
    s.Quiet (s.runFilters filters) := by
  unfold State.runFilters
  split
  · exact .refl s
  · exact s.withRails_quiet _

theorem State.withDraws_quiet (s : State) (n : Nat) : s.Quiet { s with freeDraws := n } :=
  ⟨⟨rfl, rfl, rfl, rfl, rfl, rfl, rfl, fun _ => rfl⟩, fun _ => rfl⟩

/-- The acts of the Lease Table, the budget, the channels and the ports keep all of it. -/
theorem State.Acts.quiet {s t : State} (h : s.Acts t) : s.Quiet t := by
  obtain ⟨_, h⟩ := h
  cases h with
  | idle => exact .refl s
  | grant =>
    exact (((s.setRecord_quiet _ _).trans (State.joinGrants_quiet _ _ _)).trans
      (State.onChannel_quiet _ _ Channel.turnOn_barred)).counted
  | wait => exact ((s.onRail_quiet _ _).trans (State.setRecord_quiet _ _ _)).counted
  | claim =>
    exact ((((s.giveWay_quiet _ _).trans (State.setRecord_quiet _ _ _)).trans
      (State.joinGrants_quiet _ _ _)).trans (State.scan_quiet _ _)).counted
  | release => exact ((s.freeRecord_quiet _).trans (State.scan_quiet _ _)).counted
  | finish => exact ((s.endRecord_quiet _ _).trans (State.scan_quiet _ _)).counted
  | renew => exact (s.setRecord_quiet _ _).counted
  | recount => exact s.countChange_quiet
  | resizeWaiter => exact ((s.setRecord_quiet _ _).trans (State.scan_quiet _ _)).counted
  | resizeLower =>
    exact (((s.setRecord_quiet _ _).trans (State.onRail_quiet _ _ _)).trans
      (State.scan_quiet _ _)).counted
  | resizeRaise => exact ((s.setRecord_quiet _ _).trans (State.onRail_quiet _ _ _)).counted
  | ackEnded => exact (s.freeRecord_quiet _).counted
  | ackOther => exact ((s.dropNotice_quiet _ _).trans (State.setRecord_quiet _ _ _)).counted
  | holdGranted | holdTripped =>
    exact ((s.postNotice_quiet _ _ _).trans (State.setRecord_quiet _ _ _)).counted
  | tripGranted =>
    exact (((s.startRetry_quiet _).trans (State.postNotice_quiet _ _ _ _)).trans
      (State.setRecord_quiet _ _ _)).counted
  | tripHeld => exact ((s.startRetry_quiet _).trans (State.setRecord_quiet _ _ _)).counted
  | restart =>
    exact ((s.setRecord_quiet _ _).trans (State.onChannel_quiet _ _ Channel.turnOn_barred)).counted
  | tick due => exact (s.withRecords_quiet _).trans (State.runFilters_quiet _ _)
  | restartAll => exact s.restarted_quiet
  | limit => exact (s.onRail_quiet _ _).trans (State.limitChange_quiet _ _ _)
  | filter => exact s.onRail_quiet _ _
  | fault hg => exact s.onChannel_quiet _ fun c => by rw [hg]
  | retryTick due =>
    refine s.withChannels_quiet _ fun n => ?_
    rw [vector_get_ofFn]
    split <;> rfl
  | pins hg =>
    exact (s.onPort_quiet _ fun ps => by rw [hg]).trans (State.withDraws_quiet _ _)
  | capture | flip | copy | patience => exact s.onPort_quiet _ fun _ => rfl
  | stage => exact ⟨⟨rfl, rfl, rfl, rfl, rfl, rfl, rfl, fun _ => rfl⟩, fun _ => rfl⟩

/-- So does the end of a frame. -/
theorem State.endFrame_quiet (s : State) (p : Port) (reg : ReplyRegister) (last : Option Bool) :
    s.Quiet (s.endFrame p reg last) := s.onPort_quiet p fun _ => rfl

end Sys2Proof.Machine
end

section
/-! PROOFS. The Profile Store: what the completion of a row write, a load and cold reset write. -/

namespace Sys2Proof.Machine

/-! ## After a write of the channels or the accounts as a whole -/

@[simp] theorem State.withChannels_port (s : State) (v : Vector Channel 24) (q : Port) :
    { s with channels := v }.port q = s.port q := by cases q <;> rfl

@[simp] theorem State.withRails_port (s : State) (v : Vector Account 4) (q : Port) :
    { s with rails := v }.port q = s.port q := by cases q <;> rfl

/-- Where all but some parts of a state are another's, a change of a port changes no other. -/
theorem State.onPort_parts {s t : State} (p : Port) (g : PortState → PortState)
    (h : t = { s with rails := t.rails, channels := t.channels, portA := t.portA, portB := t.portB }) :
    t.onPort p g = { s with
      rails := (t.onPort p g).rails, channels := (t.onPort p g).channels
      portA := (t.onPort p g).portA, portB := (t.onPort p g).portB } := by
  cases p
  · rw [h]; rfl
  · rw [h]; rfl

/-! ## Handing a row to the other blocks (R97, R26, R59) -/

@[simp] theorem State.judgeBarring_port (s : State) (which : Output → Bool) (q : Port) :
    (s.judgeBarring which).port q = s.port q := State.withChannels_port _ _ _

@[simp] theorem State.judgeBarring_portRow (s : State) (which : Output → Bool) (q : Port) :
    (s.judgeBarring which).portRow q = s.portRow q := by
  rw [State.judgeBarring]; simp only [State.portRow]

@[simp] theorem State.judgeBarring_rail (s : State) (which : Output → Bool) (r : Rail) :
    (s.judgeBarring which).rail r = s.rail r := by rw [State.judgeBarring]; simp only [State.rail]

@[simp] theorem State.judgeBarring_channel (s : State) (which : Output → Bool) (n : Output) :
    (s.judgeBarring which).channel n =
      if which n then (s.channel n).judgeBarred (s.shadow.bars n) else s.channel n := by
  rw [State.judgeBarring, State.channel, vector_get_ofFn]

/-- Judging the barring writes the channels alone. -/
theorem State.judgeBarring_eq (s : State) (which : Output → Bool) :
    s.judgeBarring which = { s with channels := (s.judgeBarring which).channels } := by
  rw [State.judgeBarring]

/-- The hand-off of a row writes the accounts, the channels and the ports alone. -/
theorem State.handOffRow_eq (s : State) (i : RowId) :
    s.handOffRow i = { s with
      rails := (s.handOffRow i).rails, channels := (s.handOffRow i).channels
      portA := (s.handOffRow i).portA, portB := (s.handOffRow i).portB } := by
  cases i with
  | output n => rw [State.handOffRow, State.judgeBarring_eq]
  | rail r =>
    rw [State.handOffRow, State.judgeBarring_eq]
    simp only [State.onRail]
  | port p => cases p <;> rfl

@[simp] theorem State.handOffRow_record (s : State) (i : RowId) (h : Handle) :
    (s.handOffRow i).record h = s.record h := by
  rw [State.record, State.handOffRow_eq]; rfl

/-- The channels an output row or a rail row feeds are judged anew (R97). -/
theorem State.handOffRow_channel (s : State) (i : RowId) (n : Output) :
    (s.handOffRow i).channel n =
      if i = .output n ∨ i = .rail (s.outputRow n).rail then
        (s.channel n).judgeBarred (s.shadow.bars n)
      else s.channel n := by
  cases i with
  | output m =>
    simp [State.handOffRow, eq_comm]
  | rail r =>
    simp [State.handOffRow, eq_comm]
  | port p => simp [State.handOffRow, State.defaultPatience]

/-- The account a rail row feeds loads it, and a candidate that its filter time passes is taken
(R26). -/
theorem State.handOffRow_rail (s : State) (i : RowId) (r : Rail) :
    (s.handOffRow i).rail r =
      if i = .rail r then
        ((s.rail r).loadProfile (s.shadow.rails.get r).vals).judgeCandidate
      else s.rail r := by
  cases i with
  | output m => simp [State.handOffRow]
  | rail k =>
    simp only [State.handOffRow, State.judgeBarring_rail, State.onRail_rail, RowId.rail.injEq]
    split
    · next hk => rw [hk]
    · rfl
  | port p => simp [State.handOffRow, State.defaultPatience]

/-- The patience a port row feeds is its row's (R59). -/
theorem State.handOffRow_port (s : State) (i : RowId) (q : Port) :
    (s.handOffRow i).port q =
      if i = .port q then { s.port q with patience := (s.portRow q).patience } else s.port q := by
  cases i with
  | output m => simp [State.handOffRow]
  | rail k => simp [State.handOffRow]
  | port p =>
    simp only [State.handOffRow, State.defaultPatience, State.onPort_port, RowId.port.injEq]
    split
    · next hq => rw [hq]
    · rfl

/-! ## The completion of a row write (R138, R139) -/

/-- A write that did not end well leaves the array as it was but for its row, in one of three
conditions (R139, R140). -/
theorem State.leaveRemnant_eq (s : State) (target : RowWrite) :
    s.leaveRemnant target = { s with
      array := (s.leaveRemnant target).array, freeDraws := s.freeDraws + 1 } := by
  unfold State.leaveRemnant
  dsimp only
  split <;> rfl

theorem State.leaveRemnant_array (s : State) (target : RowWrite) :
    (s.leaveRemnant target).array = s.array ∨ (s.leaveRemnant target).array = s.array.write target
      ∨ (s.leaveRemnant target).array = s.array.spoil target.id := by
  unfold State.leaveRemnant
  dsimp only
  split
  · exact .inl rfl
  · exact .inr (.inl rfl)
  · exact .inr (.inr rfl)

/-- The store after a write that agreed. -/
theorem State.stored_agrees (s : State) (target : RowWrite) :
    s.stored true target = { s with
      array := s.array.write target, shadow := s.shadow.write target, write := none } := rfl

/-- The store after a write that did not. -/
theorem State.stored_fails (s : State) (target : RowWrite) :
    s.stored false target = { s with
      array := (s.leaveRemnant target).array, shadow := s.shadow.spoil target.id
      write := none, freeDraws := s.freeDraws + 1 } := by
  simp only [State.stored, Bool.false_eq_true, if_false]
  rw [State.leaveRemnant_eq]

/-- The end of a row write changes the profile, the write in flight and the count of draws alone. -/
theorem State.stored_eq (s : State) (agrees : Bool) (target : RowWrite) :
    s.stored agrees target = { s with
      array := (s.stored agrees target).array
      shadow := if agrees then s.shadow.write target else s.shadow.spoil target.id
      write := none, freeDraws := (s.stored agrees target).freeDraws } := by
  cases agrees with
  | true => rfl
  | false => rw [State.stored_fails]; rfl

/-- What the array holds once a row write has ended. -/
theorem State.stored_array (s : State) (agrees : Bool) (target : RowWrite) :
    (s.stored agrees target).array = s.array.write target ∨ agrees = false
      ∧ ((s.stored agrees target).array = s.array
        ∨ (s.stored agrees target).array = s.array.spoil target.id) := by
  cases agrees with
  | true => exact .inl rfl
  | false =>
    rw [State.stored_fails]
    rcases s.leaveRemnant_array target with h | h | h
    · exact .inr ⟨rfl, .inl h⟩
    · exact .inl h
    · exact .inr ⟨rfl, .inr h⟩

section
variable (s : State) (agrees : Bool) (w : WriteInFlight)

/-- A row write's completion writes what its hand-off and its port's reply write. -/
theorem State.completed_eq :
    s.completed agrees w = { s.stored agrees w.target with
      rails := (s.completed agrees w).rails, channels := (s.completed agrees w).channels
      portA := (s.completed agrees w).portA, portB := (s.completed agrees w).portB } := by
  unfold State.completed State.endSlow
  exact State.onPort_parts _ _ (State.handOffRow_eq _ _)

theorem State.completed_shadow : (s.completed agrees w).shadow =
    if agrees then s.shadow.write w.target else s.shadow.spoil w.target.id := by
  rw [State.completed_eq, State.stored_eq]

theorem State.completed_array :
    (s.completed agrees w).array = (s.stored agrees w.target).array := by
  rw [State.completed_eq]

theorem State.stored_port (q : Port) : (s.stored agrees w.target).port q = s.port q := by
  rw [State.stored_eq]; cases q <;> rfl

theorem State.stored_channel (n : Output) :
    (s.stored agrees w.target).channel n = s.channel n := by
  rw [State.stored_eq]; rfl

theorem State.stored_rail (r : Rail) : (s.stored agrees w.target).rail r = s.rail r := by
  rw [State.stored_eq]; rfl

/-- The shadow that the hand-off reads is the one the completion leaves. -/
theorem State.completed_shadow_stored :
    (s.completed agrees w).shadow = (s.stored agrees w.target).shadow := by
  rw [State.completed_eq]

theorem State.completed_outputRow (n : Output) :
    (s.completed agrees w).outputRow n = (s.stored agrees w.target).outputRow n := by
  rw [State.outputRow, State.completed_shadow_stored, State.outputRow]

theorem State.completed_channel (n : Output) :
    (s.completed agrees w).channel n =
      if w.target.id = .output n ∨ w.target.id = .rail ((s.completed agrees w).outputRow n).rail then
        (s.channel n).judgeBarred ((s.completed agrees w).shadow.bars n)
      else s.channel n := by
  have hreply : (s.completed agrees w).channel n =
      ((s.stored agrees w.target).handOffRow w.target.id).channel n := State.onPort_channel ..
  rw [hreply, State.handOffRow_channel, State.completed_outputRow, State.completed_shadow_stored,
    State.stored_channel]

theorem State.completed_rail (r : Rail) :
    (s.completed agrees w).rail r =
      if w.target.id = .rail r then
        ((s.rail r).loadProfile ((s.completed agrees w).shadow.rails.get r).vals).judgeCandidate
      else s.rail r := by
  have hreply : (s.completed agrees w).rail r =
      ((s.stored agrees w.target).handOffRow w.target.id).rail r := State.onPort_rail ..
  rw [hreply, State.handOffRow_rail, State.completed_shadow_stored, State.stored_rail]

theorem State.completed_port (q : Port) :
    (s.completed agrees w).port q = { s.port q with
      patience := if w.target.id = .port q then ((s.completed agrees w).portRow q).patience
        else (s.port q).patience
      slow := if q = w.port then none else (s.port q).slow
      register := if q = w.port then
          { (s.port q).register with
            reply := ⟨if agrees then .done else .storeFail, 0, w.target.id.number, 0⟩ }
        else (s.port q).register } := by
  have hrow : (s.completed agrees w).portRow q = (s.stored agrees w.target).portRow q := by
    rw [State.portRow, State.completed_shadow_stored, State.portRow]
  rw [hrow, State.completed, State.endSlow, State.onPort_port]
  by_cases hq : w.port = q
  · subst hq
    simp only [if_true, State.handOffRow_port, State.stored_port]
    split <;> rfl
  · simp only [if_neg hq, if_neg (Ne.symm hq), State.handOffRow_port, State.stored_port]
    split <;> rfl

end

/-- A row write in flight completes (R138, R139). -/
theorem execWriteRowCompletion_of_write {s : State} {w : WriteInFlight} (agrees : Bool)
    (hw : s.write = some w) : execWriteRowCompletion agrees s = .next (s.completed agrees w) := by
  unfold execWriteRowCompletion
  split
  · next h => rw [hw] at h; cases h
  · next h => rw [hw] at h; cases h; rfl

/-- A candidate that a new filter time passes is taken, and one that it does not stays
(R26, R34). -/
theorem Account.judgeCandidate_of_passed {a : Account} {c : Candidate} (hc : a.candidate = some c)
    (hpast : a.filterTime ≤ c.shown) :
    a.judgeCandidate = { a with health := c.level, candidate := none } := by
  simp only [Account.judgeCandidate, hc, if_pos hpast]

theorem Account.judgeCandidate_of_not_passed {a : Account}
    (h : ∀ c, a.candidate = some c → c.shown < a.filterTime) : a.judgeCandidate = a := by
  unfold Account.judgeCandidate
  split
  · rfl
  · next c hc => rw [if_neg (Nat.not_le.2 (h c hc))]

/-- Settles O55: the shadow is written first, the hand-off reads it, and the reply is the
writer's. -/
theorem writeRowCompletes : Obligations.WriteRowCompletes := by
  intro s agrees
  refine ⟨fun hw => ?_, fun q w hw => ⟨s.completed agrees ⟨q, w⟩,
    execWriteRowCompletion_of_write agrees hw, s.completed_shadow agrees ⟨q, w⟩, ?_, ?_, ?_, ?_, ?_,
    ?_, ?_, fun k => s.completed_port agrees ⟨q, w⟩ k, ?_⟩⟩
  · simp only [exec, execWriteRowCompletion, hw]
  · rintro rfl
    rw [State.completed_eq, State.stored_agrees]
    exact ⟨rfl, rfl⟩
  · rintro rfl
    rw [State.completed_array, State.stored_fails]
    exact s.leaveRemnant_array w
  · rw [State.completed_eq, State.stored_eq]
  · intro n hn
    rw [State.completed_channel, if_pos hn]; rfl
  · intro n hn hn'
    rw [State.completed_channel, if_neg (not_or.2 ⟨hn, hn'⟩)]
  · intro r hr
    rw [State.completed_rail, if_neg hr]
  · intro r hr
    have hrail := s.completed_rail agrees ⟨q, w⟩ r
    rw [if_pos hr] at hrail
    rw [hrail]
    refine ⟨?_, ?_, ?_, ?_, ?_, ?_, fun c hc hpast => ?_, fun hc => ?_⟩
    iterate 4 rw [Account.judgeCandidate_eq]; rfl
    · rw [Account.judgeCandidate_cap]; rfl
    · rw [Account.judgeCandidate_eq]; rfl
    · rw [Account.judgeCandidate_of_passed (a := (s.rail r).loadProfile _) hc hpast]
      exact ⟨rfl, rfl⟩
    · rw [Account.judgeCandidate_of_not_passed hc]
      exact ⟨rfl, rfl⟩
  · rw [State.completed_eq, State.stored_eq]
    exact ⟨rfl, rfl, rfl, rfl, rfl⟩

/-! ## Loads (R129, R130, R141) -/

/-- A change of a port is what it makes of the port that stands. -/
theorem State.onPort_congr {s : State} {p : Port} {f g : PortState → PortState}
    (h : f (s.port p) = g (s.port p)) : s.onPort p f = s.onPort p g := by
  cases p
  · exact congrArg (fun ps => { s with portA := ps }) h
  · exact congrArg (fun ps => { s with portB := ps }) h

/-- A change of a port that leaves it as it stands changes nothing. -/
theorem State.onPort_self {s : State} {p : Port} {f : PortState → PortState}
    (h : f (s.port p) = s.port p) : s.onPort p f = s :=
  (State.onPort_congr (g := id) h).trans (by cases p <;> rfl)

/-- The end of a port's RELOAD writes its port alone. -/
theorem State.endReload_eq (s : State) (p : Port) :
    s.endReload p = s.onPort p (fun ps => if ps.slow = some .reload then
      { ps with
        register := { ps.register with reply := ⟨.done, 0, s.shadow.badRows, 0⟩ }, slow := none }
      else ps) := by
  unfold State.endReload
  split
  · next h =>
    cases p
    · exact State.onPort_congr (if_pos h).symm
    · exact State.onPort_congr (if_pos h).symm
  · next h =>
    refine (State.onPort_self ?_).symm
    exact if_neg h

/-- The accounts, the barring and the patience handed over at the end of a load (R130). -/
def State.handed (s : State) : State :=
  (({ s with rails := Vector.ofFn (fun r : Rail =>
    { (s.rail r).loadProfile (s.shadow.rails.get r).vals with
      health := ((s.rail r).loadProfile (s.shadow.rails.get r).vals).reading
      candidate := none }) }.judgeBarring (fun _ => true)).defaultPatience .a).defaultPatience .b

theorem State.endLoad_eq_handed (s : State) :
    s.endLoad = ({ s.handed with mode := .setup, load := none }.endReload .a).endReload .b := rfl

/-- The hand-over writes the accounts, the channels and the ports alone. -/
theorem State.handed_eq (s : State) :
    s.handed = { s with
      rails := s.handed.rails, channels := s.handed.channels
      portA := s.handed.portA, portB := s.handed.portB } := by
  conv_lhs =>
    rw [State.handed, State.judgeBarring_eq]
    simp only [State.defaultPatience, State.onPort]
  simp only [State.handed, State.defaultPatience, State.onPort, State.judgeBarring]

theorem State.endLoad_eq (s : State) :
    s.endLoad = { s with
      mode := .setup, load := none
      rails := s.endLoad.rails, channels := s.endLoad.channels
      portA := s.endLoad.portA, portB := s.endLoad.portB } := by
  rw [State.endLoad_eq_handed, State.endReload_eq, State.endReload_eq]
  refine State.onPort_parts (s := { s with mode := .setup, load := none }) _ _
    (State.onPort_parts _ _ ?_)
  conv_lhs => rw [State.handed_eq]

@[simp] theorem State.handed_portRow (s : State) (q : Port) : s.handed.portRow q = s.portRow q := by
  rw [State.portRow, State.handed_eq]; rfl

theorem State.handed_channel (s : State) (n : Output) :
    s.handed.channel n = (s.channel n).judgeBarred (s.shadow.bars n) := by
  simp only [State.handed, State.defaultPatience, State.onPort_channel,
    State.judgeBarring_channel, if_true]
  rfl

/-- An account at the end of a load: its row's profile, and its health as the inputs read (R130). -/
theorem State.handed_rail (s : State) (r : Rail) :
    s.handed.rail r = { s.rail r with
      nominal := (s.shadow.rails.get r).vals.nominal, reduced := (s.shadow.rails.get r).vals.reduced
      reserve := (s.shadow.rails.get r).vals.reserve
      filterTime := (s.shadow.rails.get r).vals.filter
      health := (s.rail r).reading, candidate := none } := by
  simp only [State.handed, State.defaultPatience, State.onPort_rail, State.judgeBarring_rail]
  rw [State.rail, vector_get_ofFn]
  rfl

theorem State.handed_port (s : State) (q : Port) :
    s.handed.port q = { s.port q with patience := (s.portRow q).patience } := by
  simp only [State.handed, State.defaultPatience, State.onPort_port, State.onPort_portRow,
    State.judgeBarring_port, State.judgeBarring_portRow, State.withRails_port]
  cases q <;> rfl

theorem State.endLoad_channel (s : State) (n : Output) :
    s.endLoad.channel n = (s.channel n).judgeBarred (s.shadow.bars n) := by
  rw [State.endLoad_eq_handed, State.endReload_eq, State.endReload_eq]
  simp only [State.onPort_channel]
  exact s.handed_channel n

theorem State.endLoad_rail (s : State) (r : Rail) :
    s.endLoad.rail r = { s.rail r with
      nominal := (s.shadow.rails.get r).vals.nominal, reduced := (s.shadow.rails.get r).vals.reduced
      reserve := (s.shadow.rails.get r).vals.reserve
      filterTime := (s.shadow.rails.get r).vals.filter
      health := (s.rail r).reading, candidate := none } := by
  rw [State.endLoad_eq_handed, State.endReload_eq, State.endReload_eq]
  simp only [State.onPort_rail]
  exact s.handed_rail r

/-- The end of a RELOAD at either port that has one in flight. -/
theorem State.endReloads_port (s : State) (q : Port) :
    ((s.endReload .a).endReload .b).port q = { s.port q with
      slow := if (s.port q).slow = some .reload then none else (s.port q).slow
      register := if (s.port q).slow = some .reload then
          { (s.port q).register with reply := ⟨.done, 0, s.shadow.badRows, 0⟩ }
        else (s.port q).register } := by
  rw [State.endReload_eq, State.endReload_eq]
  simp only [State.onPort_shadow, State.onPort_port]
  cases q
  · simp only [reduceCtorEq, if_false, if_true]; split <;> rfl
  · simp only [reduceCtorEq, if_false, if_true]; split <;> rfl

/-- A port at the end of a load: the patience of its row, and the reply of its RELOAD if it has one
in flight (R130, R141). -/
theorem State.endLoad_port (s : State) (q : Port) :
    s.endLoad.port q = { s.port q with
      patience := (s.portRow q).patience
      slow := if (s.port q).slow = some .reload then none else (s.port q).slow
      register := if (s.port q).slow = some .reload then
          { (s.port q).register with reply := ⟨.done, 0, s.shadow.badRows, 0⟩ }
        else (s.port q).register } := by
  have hshadow : s.handed.shadow = s.shadow := by rw [State.handed_eq]
  have hmode : { s.handed with mode := .setup, load := none }.port q = s.handed.port q := by
    cases q <;> rfl
  rw [State.endLoad_eq_handed, State.endReloads_port, hmode, State.handed_port]
  simp only [hshadow]

/-- The shadow row a load reads: the array's where it checks, else BAD with its defaults (R128,
R129). -/
theorem State.readRow_eq (s : State) (i : RowId) : s.readRow i = match i with
    | .output n => s.shadow.setOutput n
        (if (s.array.outputs.get n).cond = .good then s.array.outputs.get n
          else ⟨.bad, ⟨false, 0, 0, .off, 0, 1⟩⟩)
    | .rail r => s.shadow.setRail r
        (if (s.array.rails.get r).cond = .good then s.array.rails.get r else ⟨.bad, ⟨0, 0, 0, 0⟩⟩)
    | .port .a => { s.shadow with portA :=
        if s.array.portA.cond = .good then s.array.portA else ⟨.bad, ⟨.full, 24, 100⟩⟩ }
    | .port .b => { s.shadow with portB :=
        if s.array.portB.cond = .good then s.array.portB
        else ⟨.bad, ⟨if s.shadow.portA.cond = .good ∧ s.shadow.portA.vals.role = .lease then
            .full else .lease, 24, 100⟩⟩ } := by
  have good : ∀ {α : Type} {x : Row α}, x.cond = .good → (⟨.good, x.vals⟩ : Row α) = x :=
    fun {_ x} h => by cases x; cases h; rfl
  have bad : ∀ {c : Condition}, c = .bad → ¬ c = .good := by rintro _ rfl h; cases h
  cases hc : s.array.cond i with
  | good =>
    have hread : s.readRow i = s.shadow.write (s.array.row i) := by rw [State.readRow, hc]
    rw [hread]
    cases i with
    | output n | rail n =>
      rw [Profile.cond] at hc
      simp only [Profile.write, Profile.row, good hc, if_pos hc]
    | port p =>
      cases p <;>
        (simp only [Profile.cond, Profile.port] at hc
         simp only [Profile.write, Profile.row, Profile.port, Profile.setPort, good hc, if_pos hc])
  | bad =>
    have hread : s.readRow i = s.shadow.spoil i := by rw [State.readRow, hc]
    rw [hread]
    cases i with
    | output n | rail n =>
      rw [Profile.cond] at hc
      simp only [if_neg (bad hc)]; rfl
    | port p =>
      cases p <;>
        (simp only [Profile.cond, Profile.port] at hc
         simp only [if_neg (bad hc)]; rfl)

/-- ROW_READ of a row but the last (R129). -/
theorem execRowRead_next {s : State} {k : Fin 30} (hl : s.load = some k) (hk : k.val + 1 < 30) :
    execRowRead s = .next { s.withRowRead k with load := some ⟨k.val + 1, hk⟩ } := by
  unfold execRowRead
  split
  · next h => rw [hl] at h; cases h
  · next h => rw [hl] at h; cases h; rw [dif_pos hk]; rfl

/-- ROW_READ of the last row (R130). -/
theorem execRowRead_last {s : State} {k : Fin 30} (hl : s.load = some k) (hk : k.val = 29) :
    execRowRead s = .next (s.withRowRead k).endLoad := by
  have hlast : ¬ k.val + 1 < 30 := by omega
  unfold execRowRead
  split
  · next h => rw [hl] at h; cases h
  · next h => rw [hl] at h; cases h; rw [dif_neg hlast]; rfl

/-- RELOAD with a write in flight is refused (R141). -/
theorem cmdReload_storeBusy (p : Port) (f : Fields) {s : State} (hw : s.write ≠ none) :
    cmdReload p f s = (s, ⟨.storeBusy, 0, 0, 0⟩) := by
  rw [cmdReload, if_pos (Option.isSome_iff_ne_none.2 hw)]; rfl

/-- RELOAD begins a load (R141). -/
theorem cmdReload_pending (p : Port) (f : Fields) {s : State} (hw : s.write = none) :
    cmdReload p f s = (s.startReload p, ⟨.pending, 0, 0, 0⟩) := by
  have hnone : ¬ s.write.isSome = true := by simp [hw]
  rw [cmdReload, if_neg hnone]; rfl

/-- What row 29 of a load leaves, and what it keeps (R130). -/
theorem State.withRowRead_port (s : State) (k : Fin 30) (q : Port) :
    (s.withRowRead k).port q = s.port q := by cases q <;> rfl

/-- Settles O56: a row read is the array's or its defaults; the hand-over at row 29 reads the shadow
as the row left it. -/
theorem loadsReadTheArray : Obligations.LoadsReadTheArray := by
  refine ⟨fun s p f ht => ⟨fun hw => ?_, fun hw => ?_⟩, fun s => ⟨fun hl => ?_, fun k hl => ?_⟩⟩
  · exact State.takes_exec_of_run ht (by decide) (cmdReload_storeBusy p f hw)
  · exact State.takes_exec_of_run ht (by decide) (cmdReload_pending p f hw)
  · simp only [exec, execRowRead, hl]
  · have hrow : (s.withRowRead k).shadow = s.readRow (RowId.ofFin k) := rfl
    by_cases hk : k.val = 29
    · refine ⟨_, execRowRead_last hl hk, ?_, fun h => absurd hk (Nat.ne_of_lt h), fun _ => ?_⟩
      · rw [State.endLoad_eq]; exact s.readRow_eq _
      · have hshadow : (s.withRowRead k).endLoad.shadow = (s.withRowRead k).shadow := by
          rw [State.endLoad_eq]
        have hportRow : ∀ p, (s.withRowRead k).endLoad.portRow p = (s.withRowRead k).portRow p :=
          fun p => by rw [State.portRow, hshadow, State.portRow]
        refine ⟨by rw [State.endLoad_eq], by rw [State.endLoad_eq], fun r => ?_, fun n => ?_,
          fun p => ?_, ?_⟩
        · rw [hshadow]; exact State.endLoad_rail _ r
        · rw [hshadow]; exact State.endLoad_channel _ n
        · rw [hshadow, hportRow, State.endLoad_port, State.withRowRead_port]
        · rw [State.endLoad_eq]
          exact ⟨rfl, rfl, rfl, rfl, rfl⟩
    · have hlt : k.val + 1 < 30 := by have := k.isLt; omega
      exact ⟨_, execRowRead_next hl hlt, s.readRow_eq _, fun _ => rfl, fun h => absurd h hk⟩

/-! ## Cold reset (R145, R146) -/

/-- A port enters cold reset with its chip select's level kept, and the rest of a frame abandoned at
a free level of data out (R145, R156). -/
theorem PortState.enterColdReset_fst (ps : PortState) (draws : Nat) :
    ∃ level, (ps.enterColdReset draws).1 = PortState.coldReset
      (match ps.shifter with | .shifting _ => .abandoned | other => other)
      (match ps.shifter with | .shifting _ => some level | _ => ps.dataOut) := by
  refine ⟨Config.abandonedBit draws, ?_⟩
  unfold PortState.enterColdReset
  cases ps.shifter <;> rfl

/-- What a row write cut off by cold reset leaves in the array (R140). -/
theorem State.cutWrite_array (s : State) :
    (s.write = none → s.cutWrite.array = s.array)
    ∧ ∀ w, s.write = some w → s.cutWrite.array = s.array ∨ s.cutWrite.array = s.array.write w.target
      ∨ s.cutWrite.array = s.array.spoil w.target.id := by
  unfold State.cutWrite
  constructor
  · intro hw; rw [hw]
  · intro w hw; rw [hw]; exact s.leaveRemnant_array w.target

theorem State.enterColdReset_port (s : State) (p : Port) :
    ∃ level, s.enterColdReset.port p = PortState.coldReset
      (match (s.port p).shifter with | .shifting _ => .abandoned | other => other)
      (match (s.port p).shifter with | .shifting _ => some level | _ => (s.port p).dataOut) := by
  cases p
  · exact PortState.enterColdReset_fst _ _
  · exact PortState.enterColdReset_fst _ _

theorem State.enterColdReset_rail (s : State) (r : Rail) :
    s.enterColdReset.rail r = Account.coldReset (s.rail r).present (s.rail r).full := by
  rw [State.rail]; exact vector_get_ofFn _ r

theorem State.enterColdReset_channel (s : State) (n : Output) :
    s.enterColdReset.channel n = Channel.coldReset (s.channel n).faultLow := by
  rw [State.channel]; exact vector_get_ofFn _ n

theorem State.enterColdReset_record (s : State) (h : Handle) :
    s.enterColdReset.record h = .free := by
  have hrecords : s.enterColdReset.records = Vector.replicate 48 .free := rfl
  simp [State.record, hrecords, Vector.get_eq_getElem]

@[simp] theorem State.reset_record (h : Handle) : State.reset.record h = .free := by
  simp [State.reset, State.record, Vector.get_eq_getElem]

@[simp] theorem State.reset_rail (r : Rail) :
    State.reset.rail r = Account.coldReset false false := by
  simp [State.reset, State.rail, Vector.get_eq_getElem]

@[simp] theorem State.reset_channel (n : Output) :
    State.reset.channel n = Channel.coldReset false := by
  simp [State.reset, State.channel, Vector.get_eq_getElem]

@[simp] theorem State.reset_port (p : Port) :
    State.reset.port p = PortState.coldReset .idle none := by cases p <;> rfl

/-- Settles O60: each part of the state that cold reset leaves is its cold reset value, but for the
array, the inputs and the chip selects. -/
theorem coldResetSetsEveryBlock : Obligations.ColdResetSetsEveryBlock := by
  intro s
  refine ⟨fun cause => ?_, fun hin => ?_, fun hin => ?_⟩
  · refine ⟨_, exec_coldResetBegin cause s, rfl, rfl, rfl, rfl, rfl, rfl, rfl, fun r => ?_,
      fun n => ?_, fun p => ?_, rfl,
      rfl, s.cutWrite_array.1, fun q w hw => s.cutWrite_array.2 ⟨q, w⟩ hw⟩
    · rw [State.reset_rail]; exact s.enterColdReset_rail r
    · rw [State.reset_channel]; exact s.enterColdReset_channel n
    · obtain ⟨level, hport⟩ := s.enterColdReset_port p
      refine ⟨level, ?_⟩
      rw [State.reset_port]
      cases p <;> exact hport
  · simp only [exec, execColdResetEnd, hin, if_true]
  · simp only [exec, execColdResetEnd, hin, Bool.false_eq_true, if_false]

end Sys2Proof.Machine
end

section
/-! PROOFS. The modes, the store and the supervisor: what every step keeps of them. -/

namespace Sys2Proof.Machine

/-! ## Every command answers (log 25) -/

theorem State.StoreActs.pending {s t : State} (h : s.StoreActs t) : t.pending = s.pending := by
  obtain ⟨_, h⟩ := h
  cases h with
  | write => exact State.onPort_pending ..
  | reload => exact State.onPort_pending ..
  | openPart => rfl
  | closePart => rfl
  | readRow => rfl
  | endLoad => rw [State.endLoad_eq]; rfl
  | complete => rw [State.completed_eq, State.stored_eq]
  | resetEnd => rfl

/-- Settles O2: every command is an act of a block, and none of them reads or writes the queue. -/
theorem everyCommandAnswersNext : Obligations.EveryCommandAnswersNext := by
  refine ⟨fun c s => ?_, fun s hs => by rw [step, hs]⟩
  obtain ⟨t, ht, -⟩ := exec_does c s
  exact ⟨t, ht, exec_keeps (P := fun u => u.pending = s.pending)
    (Q := fun u => u.pending = s.pending) (fun hu h => h.quiet.pending.trans hu)
    (fun hu h => h.pending.trans hu) (fun _ hu => hu)
    (fun _ _ _ hu => (State.endFrame_quiet ..).pending.trans hu) rfl ht⟩

/-! ## Row writes, loads and cold reset keep to their modes (R137, R141, R145, R161) -/

theorem State.KeepsStore.storeExclusive {s t : State} (h : s.KeepsStore t)
    (hs : s.StoreExclusive) : t.StoreExclusive where
  writeInSetup := by rw [h.write, h.mode]; exact hs.writeInSetup
  loadInLoading := by rw [h.load, h.mode]; exact hs.loadInLoading
  loadingLoads := by rw [h.mode, h.load, h.reset]; exact hs.loadingLoads
  resetLoads := by rw [h.mode, h.load, h.reset]; exact hs.resetLoads
  slowWrite p := by rw [h.slow p, h.write]; exact hs.slowWrite p
  slowReload p := by rw [h.slow p, h.load]; exact hs.slowReload p

/-- In a mode other than LOADING no cold reset is in force and no load is running. -/
theorem State.StoreExclusive.idle {s : State} (hs : s.StoreExclusive) (hm : s.mode ≠ .loading) :
    s.inColdReset = false ∧ s.load = none :=
  ⟨Bool.eq_false_iff.2 fun h => hm (hs.resetLoads h).1,
    Option.not_isSome_iff_eq_none.1 fun h => hm (hs.loadInLoading h)⟩

/-- In a mode other than SETUP no row write is in flight. -/
theorem State.StoreExclusive.noWrite {s : State} (hs : s.StoreExclusive) (hm : s.mode ≠ .setup) :
    s.write = none :=
  Option.not_isSome_iff_eq_none.1 fun h => hm (hs.writeInSetup h)

/-- While no write is in flight no port has WRITE ROW as its slow command. -/
theorem State.StoreExclusive.slow_ne_write {s : State} (hs : s.StoreExclusive) (hw : s.write = none)
    (p : Port) : (s.port p).slow ≠ some .writeRow := fun h => by
  obtain ⟨w, hw', -⟩ := (hs.slowWrite p).1 h
  rw [hw] at hw'; cases hw'

/-- While no load is running no port has RELOAD as its slow command. -/
theorem State.StoreExclusive.slow_ne_reload {s : State} (hs : s.StoreExclusive) (hl : s.load = none)
    (p : Port) : (s.port p).slow ≠ some .reload := fun h => by
  have := hs.slowReload p h
  rw [hl] at this; cases this

theorem State.startWrite_slow (s : State) (p : Port) (i : RowId) (q : Port) :
    ((s.startWrite p i).port q).slow = if p = q then some .writeRow else (s.port q).slow := by
  cases p <;> cases q <;> rfl

theorem State.startReload_slow (s : State) (p q : Port) :
    ((s.startReload p).port q).slow = if p = q then some .reload else (s.port q).slow := by
  cases p <;> cases q <;> rfl

theorem State.StoreExclusive.startWrite {s : State} (hs : s.StoreExclusive) (hm : s.mode = .setup)
    (hw : s.write = none) (p : Port) (i : RowId) : (s.startWrite p i).StoreExclusive := by
  have hmode : (s.startWrite p i).mode = .setup := (State.onPort_mode ..).trans hm
  have hwrite : (s.startWrite p i).write = some ⟨p, s.stagedRow i⟩ := State.onPort_write ..
  have hload : (s.startWrite p i).load = s.load := State.onPort_load ..
  have hreset : (s.startWrite p i).inColdReset = s.inColdReset := State.onPort_inColdReset ..
  obtain ⟨hno, hnone⟩ := hs.idle (by rw [hm]; decide)
  refine ⟨fun _ => hmode, ?_, ?_, ?_, fun q => ?_, fun q => ?_⟩
  · rw [hload, hnone]; intro h; cases h
  · rw [hmode]; intro h; cases h
  · rw [hreset, hno]; intro h; cases h
  · rw [State.startWrite_slow, hwrite]
    split
    · next hq => simp [hq]
    · next hq => simp [hs.slow_ne_write hw q, hq]
  · rw [State.startWrite_slow, hload]
    split
    · intro h; cases h
    · exact hs.slowReload q

theorem State.StoreExclusive.startReload {s : State} (hs : s.StoreExclusive) (hm : s.mode = .setup)
    (hw : s.write = none) (p : Port) : (s.startReload p).StoreExclusive := by
  have hmode : (s.startReload p).mode = .loading := State.onPort_mode ..
  have hwrite : (s.startReload p).write = none := (State.onPort_write ..).trans hw
  have hload : (s.startReload p).load = some 0 := State.onPort_load ..
  have hreset : (s.startReload p).inColdReset = false :=
    (State.onPort_inColdReset ..).trans (hs.idle (by rw [hm]; decide)).1
  refine ⟨?_, fun _ => hmode, fun _ => .inl (by rw [hload]; rfl), ?_, fun q => ?_, fun _ _ => ?_⟩
  · rw [hwrite]; intro h; cases h
  · rw [hreset]; intro h; cases h
  · rw [State.startReload_slow, hwrite]
    split
    · simp
    · simp [hs.slow_ne_write hw q]
  · rw [hload]; rfl

/-- A change between SETUP and SERVICE with no write in flight keeps the store exclusive. -/
theorem State.StoreExclusive.ofMode {s t : State} (hs : s.StoreExclusive) (hm : s.mode ≠ .loading)
    (hm' : t.mode ≠ .loading) (hw : s.write = none) (hwrite : t.write = s.write)
    (hload : t.load = s.load) (hreset : t.inColdReset = s.inColdReset)
    (hslow : ∀ p, (t.port p).slow = (s.port p).slow) : t.StoreExclusive := by
  obtain ⟨hno, hnone⟩ := hs.idle hm
  refine ⟨?_, ?_, fun h => absurd h hm', ?_, fun p => ?_, fun p => ?_⟩
  · rw [hwrite, hw]; intro h; cases h
  · rw [hload, hnone]; intro h; cases h
  · rw [hreset, hno]; intro h; cases h
  · rw [hslow, hwrite]; exact hs.slowWrite p
  · rw [hslow, hload]; exact hs.slowReload p

theorem State.StoreExclusive.endLoad {s : State} (hs : s.StoreExclusive)
    (hl : s.load.isSome = true) :
    s.endLoad.StoreExclusive := by
  have hloading := hs.loadInLoading hl
  have hmode : s.endLoad.mode = .setup := by rw [State.endLoad_eq]
  have hwrite : s.endLoad.write = none := by
    rw [State.endLoad_eq]; exact hs.noWrite (by rw [hloading]; decide)
  have hload : s.endLoad.load = none := by rw [State.endLoad_eq]
  have hreset : s.endLoad.inColdReset = false := by
    have hno : s.inColdReset = false := Bool.eq_false_iff.2 fun h => by
      rw [(hs.resetLoads h).2] at hl; cases hl
    rw [State.endLoad_eq]; exact hno
  have hslow : ∀ p, (s.endLoad.port p).slow ≠ some .writeRow
      ∧ (s.endLoad.port p).slow ≠ some .reload := fun p => by
    rw [State.endLoad_port]
    dsimp only
    split
    · simp
    · next h => exact ⟨hs.slow_ne_write (hs.noWrite (by rw [hloading]; decide)) p, h⟩
  refine ⟨?_, ?_, ?_, ?_, fun p => ?_, fun p h => absurd h (hslow p).2⟩
  · rw [hwrite]; intro h; cases h
  · rw [hload]; intro h; cases h
  · rw [hmode]; intro h; cases h
  · rw [hreset]; intro h; cases h
  · rw [hwrite]; simp [(hslow p).1]

theorem State.StoreExclusive.completed {s : State} (hs : s.StoreExclusive) (agrees : Bool)
    {w : WriteInFlight} (hw : s.write = some w) : (s.completed agrees w).StoreExclusive := by
  have hm : s.mode = .setup := hs.writeInSetup (by rw [hw]; rfl)
  have hwrite : (s.completed agrees w).write = none := by rw [State.completed_eq, State.stored_eq]
  have hmode : (s.completed agrees w).mode = .setup := by
    rw [State.completed_eq, State.stored_eq]; exact hm
  have hload : (s.completed agrees w).load = none := by
    rw [State.completed_eq, State.stored_eq]; exact (hs.idle (by rw [hm]; decide)).2
  have hreset : (s.completed agrees w).inColdReset = false := by
    rw [State.completed_eq, State.stored_eq]; exact (hs.idle (by rw [hm]; decide)).1
  have hslow : ∀ p, ((s.completed agrees w).port p).slow ≠ some .writeRow
      ∧ ((s.completed agrees w).port p).slow ≠ some .reload := fun p => by
    rw [State.completed_port]
    dsimp only
    split
    · simp
    · next hp =>
      refine ⟨fun h => ?_, hs.slow_ne_reload (hs.idle (by rw [hm]; decide)).2 p⟩
      obtain ⟨w', hw', hport⟩ := (hs.slowWrite p).1 h
      rw [hw] at hw'; cases hw'
      exact hp hport.symm
  refine ⟨fun _ => hmode, ?_, ?_, ?_, fun p => ?_, fun p h => absurd h (hslow p).2⟩
  · rw [hload]; intro h; cases h
  · rw [hmode]; intro h; cases h
  · rw [hreset]; intro h; cases h
  · rw [hwrite]; simp [(hslow p).1]

/-- A port that enters cold reset has no slow command. -/
theorem State.coldReset_slow (s : State) (cause : ResetCause) (p : Port) :
    ((s.coldReset cause).port p).slow = none := by
  obtain ⟨level, hport⟩ := s.enterColdReset_port p
  have hkeep : (s.coldReset cause).port p = s.enterColdReset.port p := by cases p <;> rfl
  rw [hkeep, hport]; rfl

theorem State.coldReset_storeExclusive (s : State) (cause : ResetCause) :
    (s.coldReset cause).StoreExclusive := by
  have hin : (s.coldReset cause).inColdReset = true := by
    cases cause <;> simp [State.inColdReset, State.coldReset]
  refine ⟨fun h => ?_, fun h => ?_, fun _ => .inr hin, fun _ => ⟨rfl, rfl⟩, fun p => ?_, fun p h => ?_⟩
  · cases h
  · cases h
  · rw [State.coldReset_slow]
    exact ⟨fun h => (by cases h), fun ⟨w, hw, _⟩ => (by cases hw)⟩
  · rw [State.coldReset_slow] at h; cases h

theorem State.StoreActs.storeExclusive {s t : State} (hs : s.StoreExclusive) (h : s.StoreActs t) :
    t.StoreExclusive := by
  obtain ⟨_, h⟩ := h
  cases h with
  | write hm hw => exact hs.startWrite hm hw _ _
  | reload hm hw => exact hs.startReload hm hw _
  | openPart hm hw =>
    exact hs.ofMode (by rw [hm]; decide) (by simp) hw rfl rfl rfl
      (fun p => by cases p <;> rfl)
  | closePart hm _ =>
    exact hs.ofMode (by rw [hm]; decide) (by simp [State.closed])
      (hs.noWrite (by rw [hm]; decide)) rfl rfl rfl (fun p => by cases p <;> rfl)
  | @readRow k hl hk =>
    have hload : s.load.isSome = true := by rw [hl]; rfl
    refine ⟨hs.writeInSetup, fun _ => hs.loadInLoading hload, fun _ => .inl rfl, fun h => ?_,
      fun p => ?_, fun p _ => rfl⟩
    · have := (hs.resetLoads h).2
      rw [hl] at this; cases this
    · have := hs.slowWrite p
      cases p <;> exact this
  | endLoad hl =>
    have hread : (s.withRowRead 29).StoreExclusive :=
      ⟨hs.writeInSetup, hs.loadInLoading, hs.loadingLoads, hs.resetLoads,
        fun p => by have := hs.slowWrite p; cases p <;> exact this,
        fun p => by have := hs.slowReload p; cases p <;> exact this⟩
    exact hread.endLoad (by rw [State.withRowRead, hl]; rfl)
  | complete hw => exact hs.completed _ hw
  | resetEnd hin =>
    obtain ⟨hm, -⟩ := hs.resetLoads hin
    refine ⟨fun h => ?_, fun _ => hm, fun _ => .inl rfl, fun h => ?_, fun p => ?_, fun _ _ => rfl⟩
    · exact hs.writeInSetup h
    · cases h
    · have := hs.slowWrite p
      cases p <;> exact this

/-- Settles O9: the acts of the Lease Table and the ports write none of it, and each act of the
store keeps to its mode. -/
theorem stepKeepsStoreModes : Obligations.StepKeepsStoreModes := by
  intro s t hs ht
  refine step_keeps (P := State.StoreExclusive) (fun rest h => ?_)
    (fun h ha => ha.quiet.toKeepsStore.storeExclusive h) (fun h ha => ha.storeExclusive h)
    (fun cause _ => State.coldReset_storeExclusive _ cause)
    (fun p reg last h => (State.endFrame_quiet _ p reg last).toKeepsStore.storeExclusive h) hs ht
  exact ⟨h.writeInSetup, h.loadInLoading, h.loadingLoads, h.resetLoads,
    fun p => by have := h.slowWrite p; cases p <;> exact this,
    fun p => by have := h.slowReload p; cases p <;> exact this⟩

/-! ## At least one port is FULL (R128, R136, R140) -/

/-- A port row after one port row was set. -/
theorem Profile.setPort_port (f : Profile) (p : Port) (row : Row PortRow) (q : Port) :
    (f.setPort p row).port q = if p = q then row else f.port q := by cases p <;> cases q <;> rfl

/-- A write of a row that is not this port's leaves it. -/
theorem Profile.write_port_ne (f : Profile) {w : RowWrite} {q : Port} (h : w.id ≠ .port q) :
    (f.write w).port q = f.port q := by
  cases w with
  | output | rail => cases q <;> rfl
  | port p v =>
    rw [Profile.write, Profile.setPort_port, if_neg]
    rintro rfl
    exact h rfl

theorem Profile.write_port (f : Profile) (p : Port) (v : PortRow) :
    (f.write (.port p v)).port p = ⟨.good, v⟩ := by
  rw [Profile.write, Profile.setPort_port, if_pos rfl]

theorem Profile.spoil_port_ne (f : Profile) {i : RowId} {q : Port} (h : i ≠ .port q) :
    (f.spoil i).port q = f.port q := by
  cases i with
  | output | rail => cases q <;> rfl
  | port p =>
    rw [Profile.spoil, Profile.setPort_port, if_neg]
    rintro rfl
    exact h rfl

theorem Profile.spoil_port (f : Profile) (p : Port) :
    (f.spoil (.port p)).port p = ⟨.bad, PortRow.default (defaultRole f.portA p)⟩ := by
  rw [Profile.spoil, Profile.setPort_port, if_pos rfl]

/-- A port row of the shadow that is GOOD and gives LEASE. -/
def Profile.Leases (f : Profile) (p : Port) : Prop :=
  (f.port p).cond = .good ∧ (f.port p).vals.role = .lease

/-- The law of R128 and R136 for the two profiles: GOOD shadow rows agree with the array, the array
does not hold both port rows LEASE, and Port A's row while BAD is FULL. -/
structure SupervisorRows (shadow array : Profile) : Prop where
  goodRows : ∀ p, (shadow.port p).cond = .good → array.port p = shadow.port p
  arrayRoles : ¬ (array.Leases .a ∧ array.Leases .b)
  badPortA : (shadow.port .a).cond = .bad → (shadow.port .a).vals.role = .full

theorem State.KeepsSupervisor.rows {s : State} (hs : s.KeepsSupervisor) :
    SupervisorRows s.shadow s.array :=
  ⟨hs.goodRows, fun ⟨ha, hb⟩ => hs.arrayRoles ⟨ha.1, ha.2, hb.1, hb.2⟩, hs.badPortA⟩

/-- Away from row writes and loads the law is that of the rows and of a FULL port. -/
theorem SupervisorRows.keepsSupervisor {s : State} (h : SupervisorRows s.shadow s.array)
    (hfull : s.mode ≠ .loading → (s.portRow .a).role = .full ∨ (s.portRow .b).role = .full)
    (hw : s.write = none) (hl : s.load.isSome = true → s.mode = .loading) : s.KeepsSupervisor where
  fullPort := hfull
  goodRows := h.goodRows
  arrayRoles := fun ⟨hca, hra, hcb, hrb⟩ => h.arrayRoles ⟨⟨hca, hra⟩, ⟨hcb, hrb⟩⟩
  badPortA := h.badPortA
  leaseWrite := fun _ _ _ h => by rw [hw] at h; cases h
  writeMode := fun h => by rw [hw] at h; cases h
  loadMode := hl

/-- A port row of a role is FULL or LEASE. -/
theorem Role.eq_full_of_ne_lease {r : Role} (h : r ≠ .lease) : r = .full := by
  cases r with
  | full => rfl
  | lease => exact absurd rfl h

/-- Port A's shadow row is FULL unless it is GOOD and gives LEASE. -/
theorem SupervisorRows.portA_full {shadow array : Profile} (h : SupervisorRows shadow array)
    (hl : ¬ shadow.Leases .a) : (shadow.port .a).vals.role = .full := by
  cases hc : (shadow.port .a).cond with
  | good => exact Role.eq_full_of_ne_lease fun hr => hl ⟨hc, hr⟩
  | bad => exact h.badPortA hc

/-- Port B's default role is FULL where Port A's row is GOOD and gives LEASE (R128). -/
theorem defaultRole_portB {f : Profile} (h : f.Leases .a) : defaultRole f.portA .b = .full :=
  if_pos h

/-- Once row 29 has been read, one port is FULL (R128). -/
theorem SupervisorRows.fullPort_of_portB {shadow array : Profile} (h : SupervisorRows shadow array)
    (hb : (shadow.port .b).cond = .bad → shadow.Leases .a → (shadow.port .b).vals.role = .full) :
    (shadow.port .a).vals.role = .full ∨ (shadow.port .b).vals.role = .full := by
  by_cases ha : shadow.Leases .a
  · right
    cases hc : (shadow.port .b).cond with
    | bad => exact hb hc ha
    | good =>
      refine Role.eq_full_of_ne_lease fun hr => h.arrayRoles ⟨?_, ?_⟩
      · rw [Profile.Leases, h.goodRows .a ha.1]; exact ha
      · rw [Profile.Leases, h.goodRows .b hc]; exact ⟨hc, hr⟩
  · exact .inl (h.portA_full ha)

/-- A row read from the array keeps the law of the rows (R129). -/
theorem SupervisorRows.readRow {s : State} (h : SupervisorRows s.shadow s.array) (i : RowId) :
    SupervisorRows (s.readRow i) s.array := by
  have hread : (s.array.cond i = .good ∧ s.readRow i = s.shadow.write (s.array.row i))
      ∨ s.readRow i = s.shadow.spoil i := by
    unfold State.readRow
    split
    · next hc => exact .inl ⟨hc, rfl⟩
    · exact .inr rfl
  rcases hread with ⟨hc, hr⟩ | hr
  · have hport : ∀ q, (s.readRow i).port q = s.shadow.port q
        ∨ (s.array.port q).cond = .good ∧ (s.readRow i).port q = s.array.port q := fun q => by
      rw [hr]
      by_cases hi : i = .port q
      · subst hi
        refine .inr ⟨hc, ?_⟩
        have hgood : (s.array.port q).cond = .good := hc
        rw [Profile.row, Profile.write_port, ← hgood]
      · refine .inl (Profile.write_port_ne _ ?_)
        cases i <;> exact hi
    refine ⟨fun q hq => ?_, h.arrayRoles, fun hbad => ?_⟩
    · rcases hport q with he | ⟨-, he⟩
      · rw [he] at hq ⊢; exact h.goodRows q hq
      · exact he.symm
    · rcases hport .a with he | ⟨hgood, he⟩
      · rw [he] at hbad ⊢; exact h.badPortA hbad
      · rw [he, hgood] at hbad; cases hbad
  · rw [hr]
    refine ⟨fun q hq => ?_, h.arrayRoles, fun hbad => ?_⟩
    · by_cases hi : i = .port q
      · subst hi; rw [Profile.spoil_port] at hq; cases hq
      · rw [Profile.spoil_port_ne _ hi] at hq ⊢; exact h.goodRows q hq
    · by_cases hi : i = .port .a
      · subst hi; rw [Profile.spoil_port]; rfl
      · rw [Profile.spoil_port_ne _ hi] at hbad ⊢; exact h.badPortA hbad

/-- What a write in flight keeps of the roles: a port row is written LEASE only while the other is
GOOD and FULL (R136). -/
def LeaseGuarded (shadow : Profile) (target : RowWrite) : Prop :=
  ∀ p v, target = .port p v → v.role = .lease →
    (shadow.port p.other).cond = .good ∧ (shadow.port p.other).vals.role = .full

/-- Not both ports lease, said of a port and the other. -/
theorem Profile.not_both_lease {f : Profile} (p : Port) :
    ¬ (f.Leases .a ∧ f.Leases .b) ↔ ¬ (f.Leases p ∧ f.Leases p.other) := by
  cases p
  · rfl
  · rw [and_comm]; rfl

/-- The array after a guarded write has not both port rows LEASE (R136, R140). -/
theorem SupervisorRows.write_arrayRoles {shadow array : Profile} (h : SupervisorRows shadow array)
    {w : RowWrite} (hw : LeaseGuarded shadow w) :
    ¬ ((array.write w).Leases .a ∧ (array.write w).Leases .b) := by
  cases w with
  | output | rail => exact h.arrayRoles
  | port p v =>
    rw [Profile.not_both_lease p]
    rintro ⟨⟨-, hp⟩, ⟨-, ho⟩⟩
    have hne : (RowWrite.port p v).id ≠ .port p.other := by
      cases p <;> simp [RowWrite.id, Port.other]
    rw [Profile.write_port] at hp
    obtain ⟨hgood, hfull⟩ := hw p v rfl hp
    rw [Profile.write_port_ne _ hne, h.goodRows _ hgood, hfull] at ho
    cases ho

/-- A spoilt row gives no LEASE, so spoiling the array keeps its law (R140). -/
theorem SupervisorRows.spoil_arrayRoles {shadow array : Profile} (h : SupervisorRows shadow array)
    (i : RowId) : ¬ ((array.spoil i).Leases .a ∧ (array.spoil i).Leases .b) := by
  cases i with
  | output | rail => exact h.arrayRoles
  | port p =>
    rw [Profile.not_both_lease p]
    rintro ⟨⟨hp, -⟩, -⟩
    rw [Profile.spoil_port] at hp
    cases hp

/-- A row write that agreed keeps the law of the rows, and a FULL port (R138). -/
theorem SupervisorRows.write {shadow array : Profile} (h : SupervisorRows shadow array)
    {w : RowWrite} (hw : LeaseGuarded shadow w) : SupervisorRows (shadow.write w) (array.write w) := by
  refine ⟨fun q hq => ?_, h.write_arrayRoles hw, fun hbad => ?_⟩
  · by_cases hi : w.id = .port q
    · cases w with
      | output | rail => cases hi
      | port p v => cases hi; rw [Profile.write_port, Profile.write_port]
    · rw [Profile.write_port_ne _ hi] at hq
      rw [Profile.write_port_ne _ hi, Profile.write_port_ne _ hi, h.goodRows q hq]
  · by_cases hi : w.id = .port .a
    · cases w with
      | output | rail => cases hi
      | port p v => cases hi; rw [Profile.write_port] at hbad; cases hbad
    · rw [Profile.write_port_ne _ hi] at hbad ⊢; exact h.badPortA hbad

theorem fullPort_write {shadow : Profile} {w : RowWrite} (hw : LeaseGuarded shadow w)
    (hfull : (shadow.port .a).vals.role = .full ∨ (shadow.port .b).vals.role = .full) :
    ((shadow.write w).port .a).vals.role = .full ∨ ((shadow.write w).port .b).vals.role = .full := by
  cases w with
  | output | rail => exact hfull
  | port p v =>
    have hone : ∃ q, ((shadow.write (.port p v)).port q).vals.role = .full := by
      cases hr : v.role with
      | full => exact ⟨p, by rw [Profile.write_port]; exact hr⟩
      | lease =>
        have hne : (RowWrite.port p v).id ≠ .port p.other := by
          cases p <;> simp [RowWrite.id, Port.other]
        exact ⟨p.other, by rw [Profile.write_port_ne _ hne]; exact (hw p v rfl hr).2⟩
    obtain ⟨q, hq⟩ := hone
    cases q
    · exact .inl hq
    · exact .inr hq

/-- A spoilt shadow row keeps the law of the rows, whatever became of the array row (R139). -/
theorem SupervisorRows.spoil {shadow array array' : Profile} (h : SupervisorRows shadow array)
    {i : RowId} (hother : ∀ q, i ≠ .port q → array'.port q = array.port q)
    (hroles : ¬ (array'.Leases .a ∧ array'.Leases .b)) :
    SupervisorRows (shadow.spoil i) array' := by
  refine ⟨fun q hq => ?_, hroles, fun hbad => ?_⟩
  · by_cases hi : i = .port q
    · subst hi; rw [Profile.spoil_port] at hq; cases hq
    · rw [Profile.spoil_port_ne _ hi] at hq ⊢
      rw [hother q hi, h.goodRows q hq]
  · by_cases hi : i = .port .a
    · subst hi; rw [Profile.spoil_port]; rfl
    · rw [Profile.spoil_port_ne _ hi] at hbad ⊢; exact h.badPortA hbad

theorem SupervisorRows.fullPort_spoil {shadow array : Profile} (h : SupervisorRows shadow array)
    (i : RowId)
    (hfull : (shadow.port .a).vals.role = .full ∨ (shadow.port .b).vals.role = .full) :
    ((shadow.spoil i).port .a).vals.role = .full ∨ ((shadow.spoil i).port .b).vals.role = .full := by
  cases i with
  | output | rail => exact hfull
  | port p =>
    cases p with
    | a => exact .inl (by rw [Profile.spoil_port]; rfl)
    | b =>
      by_cases ha : shadow.Leases .a
      · exact .inr (by rw [Profile.spoil_port]; exact defaultRole_portB ha)
      · refine .inl ?_
        rw [Profile.spoil_port_ne _ (by simp)]
        exact h.portA_full ha

theorem State.KeepsSupervisor.leaseGuarded {s : State} (hs : s.KeepsSupervisor) {w : WriteInFlight}
    (hw : s.write = some w) : LeaseGuarded s.shadow w.target := fun p v ht hr => by
  obtain ⟨q, target⟩ := w
  subst ht
  exact hs.leaseWrite q p v hw hr

/-- What a write that has ended, well or not, leaves in the array keeps its law (R139, R140). -/
theorem SupervisorRows.ended_arrayRoles {shadow array array' : Profile}
    (h : SupervisorRows shadow array) {w : RowWrite} (hw : LeaseGuarded shadow w)
    (ha : array' = array ∨ array' = array.write w ∨ array' = array.spoil w.id) :
    ¬ (array'.Leases .a ∧ array'.Leases .b) := by
  rcases ha with rfl | rfl | rfl
  · exact h.arrayRoles
  · exact h.write_arrayRoles hw
  · exact h.spoil_arrayRoles _

theorem State.KeepsSupervisor.completed {s : State} (hs : s.KeepsSupervisor) (agrees : Bool)
    {w : WriteInFlight} (hw : s.write = some w) : (s.completed agrees w).KeepsSupervisor := by
  have hm : s.mode = .setup := hs.writeMode (by rw [hw]; rfl)
  have hguard := hs.leaseGuarded hw
  have hshadow := s.completed_shadow agrees w
  have harray := s.completed_array agrees w
  have hfull := hs.fullPort (by rw [hm]; decide)
  have hload : (s.completed agrees w).load.isSome = true →
      (s.completed agrees w).mode = .loading := by
    rw [State.completed_eq, State.stored_eq]; exact hs.loadMode
  have hnone : (s.completed agrees w).write = none := by rw [State.completed_eq, State.stored_eq]
  cases agrees with
  | true =>
    refine SupervisorRows.keepsSupervisor ?_ (fun _ => ?_) hnone hload
    · rw [hshadow, harray]; exact hs.rows.write hguard
    · simp only [State.portRow, hshadow]; exact fullPort_write hguard hfull
  | false =>
    have hcases := s.leaveRemnant_array w.target
    have hleft : (s.completed false w).array = (s.leaveRemnant w.target).array := by
      rw [harray, State.stored_fails]
    rw [← hleft] at hcases
    refine SupervisorRows.keepsSupervisor ?_ (fun _ => ?_) hnone hload
    · rw [hshadow]
      refine hs.rows.spoil (fun q hq => ?_) (hs.rows.ended_arrayRoles hguard hcases)
      rcases hcases with he | he | he
      · rw [he]
      · rw [he, Profile.write_port_ne _ hq]
      · rw [he, Profile.spoil_port_ne _ hq]
    · simp only [State.portRow, hshadow]; exact hs.rows.fullPort_spoil _ hfull

/-- A port row staged as LEASE passes step 4 of WRITE ROW only beside a GOOD FULL row (R136). -/
theorem State.leaseRefused_guards {s : State} {i : RowId} (h : s.leaseRefused i = false) :
    LeaseGuarded s.shadow (s.stagedRow i) := by
  intro p v ht hr
  cases i with
  | output | rail => cases ht
  | port q =>
    simp only [State.stagedRow, RowWrite.port.injEq] at ht
    obtain ⟨rfl, rfl⟩ := ht
    have hrole : s.staged 10 = 1 := by
      by_contra hne
      simp only [if_neg hne] at hr
      cases hr
    simp only [State.leaseRefused, hrole, decide_true, Bool.true_and, Bool.or_eq_false_iff,
      decide_eq_false_iff_not] at h
    refine ⟨?_, Role.eq_full_of_ne_lease h.1⟩
    cases hc : (s.shadow.port q.other).cond with
    | good => rfl
    | bad => exact absurd hc h.2

/-- The law read of the same profile, write and load. -/
theorem State.KeepsSupervisor.congr {s t : State} (hs : s.KeepsSupervisor)
    (hm : t.mode ≠ .loading → s.mode ≠ .loading) (hshadow : t.shadow = s.shadow)
    (harray : t.array = s.array) (hwrite : t.write = s.write)
    (hw : s.write.isSome = true → t.mode = .setup)
    (hl : t.load.isSome = true → t.mode = .loading) : t.KeepsSupervisor where
  fullPort h := by simp only [State.portRow, hshadow]; exact hs.fullPort (hm h)
  goodRows := by rw [hshadow, harray]; exact hs.goodRows
  arrayRoles := by rw [harray]; exact hs.arrayRoles
  badPortA := by simp only [State.portRow, hshadow]; exact hs.badPortA
  leaseWrite := by simp only [State.portRow, hshadow, hwrite]; exact hs.leaseWrite
  writeMode := by rw [hwrite]; exact hw
  loadMode := hl

theorem State.KeepsSupervisor.startWrite {s : State} (hs : s.KeepsSupervisor) (hm : s.mode = .setup)
    {i : RowId} (hlease : s.leaseRefused i = false) (p : Port) :
    (s.startWrite p i).KeepsSupervisor := by
  have hshadow : (s.startWrite p i).shadow = s.shadow := State.onPort_shadow ..
  have hwrite : (s.startWrite p i).write = some ⟨p, s.stagedRow i⟩ := State.onPort_write ..
  have hmode : (s.startWrite p i).mode = s.mode := State.onPort_mode ..
  have hload : (s.startWrite p i).load = s.load := State.onPort_load ..
  have harray : (s.startWrite p i).array = s.array := State.onPort_array ..
  refine ⟨?_, ?_, ?_, ?_, fun q k v h hr => ?_, fun _ => hmode.trans hm, ?_⟩
  · simp only [State.portRow, hshadow, hmode]; exact hs.fullPort
  · rw [hshadow, harray]; exact hs.goodRows
  · rw [harray]; exact hs.arrayRoles
  · simp only [State.portRow, hshadow]; exact hs.badPortA
  · rw [hwrite, Option.some.injEq, WriteInFlight.mk.injEq] at h
    simp only [State.portRow, hshadow]
    exact State.leaseRefused_guards hlease k v h.2 hr
  · rw [hload, hmode]; exact hs.loadMode

theorem State.KeepsSupervisor.coldReset {s : State} (hs : s.KeepsSupervisor) (cause : ResetCause) :
    (s.coldReset cause).KeepsSupervisor := by
  have hroles : ¬ (s.cutWrite.array.Leases .a ∧ s.cutWrite.array.Leases .b) := by
    cases hw : s.write with
    | none => rw [s.cutWrite_array.1 hw]; exact hs.rows.arrayRoles
    | some w =>
      exact hs.rows.ended_arrayRoles (hs.leaseGuarded hw) (s.cutWrite_array.2 w hw)
  have hrows : SupervisorRows Profile.allBad s.cutWrite.array :=
    ⟨fun p h => (by cases p <;> cases h), hroles, fun _ => rfl⟩
  exact SupervisorRows.keepsSupervisor (s := s.coldReset cause) hrows (fun h => absurd rfl h) rfl
    fun _ => rfl

theorem State.StoreActs.keepsSupervisor {s t : State} (hx : s.StoreExclusive)
    (hs : s.KeepsSupervisor) (h : s.StoreActs t) : t.KeepsSupervisor := by
  obtain ⟨_, h⟩ := h
  cases h with
  | write hm _ _ hlease => exact hs.startWrite hm hlease _
  | @reload p hm hw =>
    refine hs.congr (fun _ => by rw [hm]; decide) (State.onPort_shadow ..) (State.onPort_array ..)
      (State.onPort_write ..) (fun h => ?_) fun _ => State.onPort_mode ..
    rw [hw] at h; cases h
  | openPart hm hw =>
    refine hs.congr (fun _ => by rw [hm]; decide) rfl rfl rfl (fun h => ?_) fun h => ?_
    · rw [hw] at h; cases h
    · rw [hs.loadMode h] at hm; cases hm
  | closePart hm _ =>
    refine hs.congr (fun _ => by rw [hm]; decide) rfl rfl rfl (fun _ => rfl) fun h => ?_
    rw [hs.loadMode h] at hm; cases hm
  | @readRow k hl hk =>
    have hm := hs.loadMode (by rw [hl]; rfl)
    exact SupervisorRows.keepsSupervisor (hs.rows.readRow _) (fun h => absurd hm h)
      (hx.noWrite (by rw [hm]; decide)) fun _ => hm
  | endLoad hl =>
    have hm := hs.loadMode (by rw [hl]; rfl)
    have hrows :
        SupervisorRows (s.withRowRead 29).endLoad.shadow (s.withRowRead 29).endLoad.array := by
      rw [State.endLoad_eq]; exact hs.rows.readRow _
    have hshadow : (s.withRowRead 29).endLoad.shadow = s.readRow (.port .b) := by
      rw [State.endLoad_eq]; rfl
    refine SupervisorRows.keepsSupervisor hrows (fun _ => ?_) ?_ fun h => ?_
    · refine hrows.fullPort_of_portB fun hbad ha => ?_
      rw [hshadow] at hbad ha ⊢
      unfold State.readRow at hbad ha ⊢
      split at hbad
      · rw [Profile.row, Profile.write_port] at hbad; cases hbad
      · next hc =>
        simp only [hc] at ha ⊢
        rw [Profile.spoil_port]
        exact defaultRole_portB (by rwa [Profile.Leases, Profile.spoil_port_ne _ (by simp)] at ha)
    · rw [State.endLoad_eq]; exact hx.noWrite (by rw [hm]; decide)
    · rw [State.endLoad_eq] at h; cases h
  | complete hw => exact hs.completed _ hw
  | resetEnd hin =>
    obtain ⟨hm, -⟩ := hx.resetLoads hin
    exact hs.congr (fun h => h) rfl rfl rfl hs.writeMode fun _ => hm

/-- Settles O7: a GOOD port row agrees with the array, which never holds both LEASE, and a BAD row's
default fills in for the other. -/
theorem stepKeepsSupervisor : Obligations.StepKeepsSupervisor := by
  intro s t hx hs ht
  have quiet : ∀ {u v : State}, u.KeepsStore v → u.KeepsSupervisor → v.KeepsSupervisor :=
    fun hq h => h.congr (by rw [hq.mode]; exact id) hq.shadow hq.array hq.write
      (by rw [hq.mode]; exact h.writeMode) (by rw [hq.load, hq.mode]; exact h.loadMode)
  rcases step_cases ht with rfl | ⟨i, rest, hexec⟩
  · exact hs
  · have hx' : State.StoreExclusive { s with pending := rest } :=
      ⟨hx.writeInSetup, hx.loadInLoading, hx.loadingLoads, hx.resetLoads,
        fun p => by have := hx.slowWrite p; cases p <;> exact this,
        fun p => by have := hx.slowReload p; cases p <;> exact this⟩
    refine exec_keeps (P := fun u => u.StoreExclusive ∧ u.KeepsSupervisor)
      (fun h ha => quiet ha.quiet.toKeepsStore h.2) (fun h ha => ha.keepsSupervisor h.1 h.2)
      (fun cause h => h.2.coldReset cause)
      (fun p reg last h => quiet (State.endFrame_quiet _ p reg last).toKeepsStore h)
      ⟨hx', hs.congr id rfl rfl rfl hs.writeMode hs.loadMode⟩ hexec

/-! ## The mode changes by Table 10-1 (R143) -/

/-- What a command carried out does to the mode. -/
theorem State.run_mode {s : State} {c : Command} (p : Port) (f : Fields)
    (hm : c.takenIn s.mode = true) : (s.run c p f).1.mode = s.mode
      ∨ c = .reload ∧ s.mode = .setup ∧ s.write = none ∧ (s.run c p f).1 = s.startReload p
      ∨ c = .openPart ∧ s.mode = .setup ∧ s.write = none ∧ (s.run c p f).1.mode = .service
      ∨ c = .closePart ∧ s.mode = .service ∧ (∀ h, s.record h = .free)
        ∧ (s.run c p f).1.mode = .setup := by
  have hdoes := State.run_acts p f hm
  generalize (s.run c p f).1 = t at hdoes
  rcases hdoes with hacts | hstore
  · exact .inl hacts.acts.quiet.mode
  · cases hstore with
    | write => exact .inl (State.onPort_mode ..)
    | reload hmode hw => exact .inr (.inl ⟨rfl, hmode, hw, rfl⟩)
    | openPart hmode hw => exact .inr (.inr (.inl ⟨rfl, hmode, hw, rfl⟩))
    | closePart hmode hfree => exact .inr (.inr (.inr ⟨rfl, hmode, hfree, rfl⟩))

/-- The mode after a store happening other than the beginning of cold reset: it changes at the last
row of a load alone. -/
theorem State.StoreActs.mode_of_rowRead {s t : State} (h : execRowRead s = .next t)
    (hne : t.mode ≠ s.mode) : s.load = some 29 ∧ t.mode = .setup := by
  unfold execRowRead at h
  split at h
  · cases h; exact absurd rfl hne
  · next k hl =>
    dsimp only at h
    split at h
    · cases h; exact absurd rfl hne
    · next hk =>
      obtain rfl : k = 29 := Fin.ext (by have := k.isLt; simp; omega)
      cases h
      exact ⟨hl, by rw [State.endLoad_eq]⟩

/-- Settles O10: a frame changes the mode by RELOAD, OPEN or CLOSE, and of the other commands only
the beginning of cold reset and the last row of a load do. -/
theorem modeChangesByTable : Obligations.ModeChangesByTable := by
  intro i s t hs ht hne
  cases hp : framePort? i with
  | some p =>
    rcases frame_ends hp ht with ⟨c, f, hc⟩ | rfl | ⟨reg, last, -, rfl⟩
    · rw [hc.exec_eq] at ht
      cases ht
      have hend : ∀ (u : State) reg last, (u.endFrame p reg last).mode = u.mode :=
        fun u reg last => (u.endFrame_quiet p reg last).mode
      rw [hend] at hne ⊢
      rcases State.run_mode p f hc.taken with hsame | ⟨rfl, hm, hw, hrun⟩ | ⟨rfl, hm, hw, hrun⟩
        | ⟨rfl, hm, hfree, hrun⟩
      · exact absurd hsame hne
      · refine .inr (.inr (.inl ⟨hm, ?_, hw, ?_, p, f, hc⟩))
        · rw [hrun]; exact State.onPort_mode ..
        · rw [hrun, (State.endFrame_quiet ..).load]; exact State.onPort_load ..
      · exact .inr (.inr (.inr (.inl ⟨hm, hrun, hw, p, f, hc⟩)))
      · exact .inr (.inr (.inr (.inr ⟨hm, hrun, hfree, p, f, hc⟩)))
    · exact absurd rfl hne
    · exact absurd (State.endFrame_quiet ..).mode hne
  | none =>
    cases hstore : storeHappening i with
    | false =>
      obtain ⟨u, hu, hacts⟩ := exec_acts hp hstore s
      rw [ht] at hu; cases hu
      exact absurd hacts.acts.quiet.mode hne
    | true =>
      cases i with
      | rowRead =>
        obtain ⟨hl, hm⟩ := State.StoreActs.mode_of_rowRead ht hne
        exact .inr (.inl ⟨hs.loadInLoading (by rw [hl]; rfl), hm, rfl, hl⟩)
      | writeRowCompletion agrees =>
        cases hw : s.write with
        | none => simp only [exec, execWriteRowCompletion, hw] at ht; cases ht; exact absurd rfl hne
        | some w =>
          rw [exec, execWriteRowCompletion_of_write agrees hw] at ht
          cases ht
          rw [State.completed_eq, State.stored_eq] at hne
          exact absurd rfl hne
      | coldResetBegin cause =>
        rw [exec_coldResetBegin] at ht
        cases ht
        exact .inl ⟨rfl, cause, rfl⟩
      | coldResetEnd =>
        simp only [exec, execColdResetEnd] at ht
        split at ht
        · cases ht; exact absurd rfl hne
        · cases ht; exact absurd rfl hne
      | _ => cases hstore

/-! ## In SERVICE the profile stands (R97, R131) -/

/-- In SERVICE the store's acts are CLOSE alone, which writes no row and no channel. -/
theorem State.StoreActs.profile_of_service {s t : State} (hs : s.StoreExclusive)
    (hm : s.mode = .service) (h : s.StoreActs t) :
    t.shadow = s.shadow ∧ t.array = s.array ∧ s.SameBarred t := by
  obtain ⟨hno, hnone⟩ := hs.idle (by rw [hm]; decide)
  obtain ⟨_, h⟩ := h
  cases h with
  | write hm' | reload hm' | openPart hm' => rw [hm] at hm'; cases hm'
  | closePart => exact ⟨rfl, rfl, .refl s⟩
  | readRow hl | endLoad hl => rw [hnone] at hl; cases hl
  | complete hw => rw [hs.noWrite (by rw [hm]; decide)] at hw; cases hw
  | resetEnd hin => rw [hno] at hin; cases hin

/-- Settles O12: rows and barred flags are written by the store alone, which in SERVICE has no write
and no load in flight. -/
theorem serviceKeepsProfile : Obligations.ServiceKeepsProfile := by
  intro i s t hs hm hcold ht
  obtain ⟨t', ht', u, hu, hend⟩ := exec_does i s
  rw [ht] at ht'
  cases ht'
  have hkept : u.shadow = s.shadow ∧ u.array = s.array ∧ s.SameBarred u := by
    rcases hu with hu | hu | ⟨cause, hi, -⟩
    · exact ⟨hu.quiet.shadow, hu.quiet.array, hu.quiet.barred⟩
    · exact hu.profile_of_service hs hm
    · exact absurd hi (hcold cause)
  rcases hend with rfl | ⟨p, reg, last, -, rfl⟩
  · exact hkept
  · have hq := u.endFrame_quiet p reg last
    exact ⟨hq.shadow.trans hkept.1, hq.array.trans hkept.2.1, hkept.2.2.trans hq.barred⟩

end Sys2Proof.Machine
end

section
/-! PROOFS. The notice orders: every act keeps them exact, and the ATTN lines with them. -/

namespace Sys2Proof.Machine

/-! ## The ports after a procedure of the Lease Table -/

@[simp] theorem State.leaveList_port (s : State) (h : Handle) (b : Booking) (p : Port) :
    (s.leaveList h b).port p = s.port p := rfl

@[simp] theorem State.withdraw_port (s : State) (h : Handle) (q : Port) :
    (s.withdraw h).port q = s.port q := by
  unfold State.withdraw
  repeat' split
  all_goals rfl

@[simp] theorem State.startRetry_port (s : State) (b : Booking) (q : Port) :
    (s.startRetry b).port q = s.port q := rfl

@[simp] theorem State.startRetry_record (s : State) (b : Booking) (h : Handle) :
    (s.startRetry b).record h = s.record h := rfl

@[simp] theorem State.runCountdowns_port (s : State) (due : BitVec 48) (q : Port) :
    (s.runCountdowns due).port q = s.port q := by
  rw [State.runCountdowns]; cases q <;> simp only [State.port]

@[simp] theorem State.runFilters_port (s : State) (filters : BitVec 4) (q : Port) :
    (s.runFilters filters).port q = s.port q := by
  unfold State.runFilters
  split
  · rfl
  · exact State.withRails_port ..

/-! ## A walk of a scan and of a revocation, grant by grant and ending by ending -/

/-- What every grant of a waiter that fits keeps, a scan keeps (R52). -/
theorem State.scanFrom_keeps {P : State → Prop} {r : Rail}
    (hgrant : ∀ {s : State} {h : Handle} {b : Booking} {c : Client} {term patience : Nat}, P s →
      s.record h = .waiting b c term patience → b.current ≤ (s.rail r).room b.cls →
      P (s.grantWaiter h b c term)) (l : List Handle) {s : State} (hs : P s) :
    P (s.scanFrom r l) := by
  induction l generalizing s with
  | nil => exact hs
  | cons h hs' ih =>
    unfold State.scanFrom
    split
    · next hx =>
      split
      · next hfit => exact ih (hgrant hs hx hfit)
      · exact hs
    · exact hs

theorem State.scan_keeps {P : State → Prop} {r : Rail}
    (hgrant : ∀ {s : State} {h : Handle} {b : Booking} {c : Client} {term patience : Nat}, P s →
      s.record h = .waiting b c term patience → b.current ≤ (s.rail r).room b.cls →
      P (s.grantWaiter h b c term)) {s : State} (hs : P s) : P (s.scan r) := by
  unfold State.scan
  split
  · exact State.scanFrom_keeps hgrant _ hs
  · exact hs

/-- What the ending of every record keeps, a revocation keeps (R37). -/
theorem State.revoke_keeps {P : State → Prop}
    (hend : ∀ {s : State} (h : Handle), P s → P (s.endRecord h .revoked)) {s : State} (r : Rail)
    (hs : P s) : P (s.revoke r) := by
  have walk : ∀ (l : List Handle) {s : State}, P s → P (s.revokeFrom r l) := by
    intro l
    induction l with
    | nil => exact fun hs => hs
    | cons h _ ih =>
      intro s hs
      unfold State.revokeFrom
      split
      · exact ih (hend h hs)
      · exact hs
  exact walk _ hs

/-! ## The laws of the notice orders -/

/-- The notice orders are exact, and the ATTN lines follow them (R102, R107). -/
structure State.NoticeLaws (s : State) : Prop where
  exact : s.NoticeOrdersExact
  attn : s.AttnFollowsOrders

theorem State.NoticeLaws.mem_iff {s : State} (hs : s.NoticeLaws) {p : Port} {h : Handle} :
    h ∈ (s.port p).noticeOrder ↔ (s.record h).owes p = true := (hs.exact p).2 h

theorem Record.owes_congr {x y : Record} (h : x.notice? = y.notice?) (p : Port) :
    x.owes p = y.owes p := by rw [Record.owes, Record.owes, h]

/-- The laws read the orders, the lines and each record's notice alone. -/
theorem State.NoticeLaws.congr {s t : State} (hs : s.NoticeLaws)
    (horder : ∀ p, (t.port p).noticeOrder = (s.port p).noticeOrder)
    (hattn : ∀ p, (t.port p).attnLow = (s.port p).attnLow)
    (hnotice : ∀ k, (t.record k).notice? = (s.record k).notice?) : t.NoticeLaws where
  exact p := by
    rw [horder]
    exact ⟨(hs.exact p).1, fun h => by rw [Record.owes_congr (hnotice h)]; exact (hs.exact p).2 h⟩
  attn p := by rw [hattn, horder]; exact hs.attn p

/-- The orders once record `h` carries what it does: out of its old place, and last in the order of
the port its notice is owed to (R104 to R106). -/
def State.orderAfter (s : State) (h : Handle) (x : Record) (q : Port) : List Handle :=
  (s.port q).noticeOrder.erase h ++ (if x.owes q then [h] else [])

/-- A record whose notice is set anew, and its handle put where the notice has it, keeps
the laws. -/
theorem State.NoticeLaws.renewed {s t : State} (hs : s.NoticeLaws) {h : Handle}
    (horder : ∀ q, (t.port q).noticeOrder = s.orderAfter h (t.record h) q)
    (hattn : ∀ q, (t.port q).attnLow = !(s.orderAfter h (t.record h) q).isEmpty)
    (hnotice : ∀ k, k ≠ h → (t.record k).notice? = (s.record k).notice?) : t.NoticeLaws := by
  have hout : ∀ q, h ∉ (s.port q).noticeOrder.erase h := fun q =>
    (hs.exact q).1.not_mem_erase
  refine ⟨fun q => ?_, fun q => by rw [hattn, horder]⟩
  rw [horder, State.orderAfter]
  constructor
  · refine List.Nodup.append ((hs.exact q).1.erase h) ?_ ?_
    · split <;> simp
    · split
      · simpa using hout q
      · simp
  · intro k
    by_cases hk : k = h
    · subst hk
      by_cases ho : (t.record k).owes q = true
      · simp [ho]
      · simp [ho, hout q]
    · have hmem : k ∈ (s.port q).noticeOrder.erase h ↔ k ∈ (s.port q).noticeOrder :=
        List.mem_erase_of_ne hk
      rw [List.mem_append, hmem, hs.mem_iff, Record.owes_congr (hnotice k hk)]
      split <;> simp [hk]

/-! ## Dropping and posting a notice -/

/-- A record's notice dropped takes its handle out of every order, since it stands in none but that
of its notice (R106). -/
theorem State.NoticeLaws.dropNotice_port {s : State} (hs : s.NoticeLaws) {h : Handle}
    {n : Option Notice} (hn : (s.record h).notice? = n) (q : Port) :
    (s.dropNotice h n).port q = { s.port q with
      noticeOrder := (s.port q).noticeOrder.erase h
      attnLow := !((s.port q).noticeOrder.erase h).isEmpty } := by
  have hstay : (s.record h).owes q ≠ true → s.port q = { s.port q with
      noticeOrder := (s.port q).noticeOrder.erase h
      attnLow := !((s.port q).noticeOrder.erase h).isEmpty } := fun ho => by
    rw [List.erase_of_not_mem (mt hs.mem_iff.1 ho), ← hs.attn q]
  cases n with
  | none => exact hstay (by simp [Record.owes, hn])
  | some m =>
    simp only [State.dropNotice, State.onPort_port]
    split
    · next hq => rw [hq]; rfl
    · next hq => exact hstay (by simp [Record.owes, hn, hq])

/-- A notice posted takes the record's handle out of its old place and puts it last in the order of
the party it is owed to, whose line is then asserted (R104, R105, R107). -/
theorem State.NoticeLaws.postNotice_port {s : State} (hs : s.NoticeLaws) {h : Handle}
    {n : Option Notice} (hn : (s.record h).notice? = n) (m : Notice) (q : Port) :
    (s.postNotice h n m).port q = { s.port q with
      noticeOrder := (s.port q).noticeOrder.erase h ++ (if m.owedTo.port = q then [h] else [])
      attnLow := !((s.port q).noticeOrder.erase h
        ++ (if m.owedTo.port = q then [h] else [])).isEmpty } := by
  simp only [State.postNotice, State.onPort_port]
  split
  · next hq => rw [hq, hs.dropNotice_port hn]; rfl
  · rw [hs.dropNotice_port hn, List.append_nil]

/-- The laws of a state whose records carry what another's do, with the same orders and lines. -/
theorem State.NoticeLaws.ofSame {s t : State} (hs : s.NoticeLaws)
    (hport : ∀ p, t.port p = s.port p)
    (hnotice : ∀ k, (t.record k).notice? = (s.record k).notice?) : t.NoticeLaws :=
  hs.congr (fun p => by rw [hport]) (fun p => by rw [hport]) hnotice

/-- A record whose notice is dropped and which is written without one keeps the laws. -/
theorem State.NoticeLaws.drop {s : State} (hs : s.NoticeLaws) {h : Handle} {n : Option Notice}
    {x : Record} (hn : (s.record h).notice? = n) (hx : x.notice? = none) :
    ((s.dropNotice h n).setRecord h x).NoticeLaws := by
  refine hs.renewed (h := h) (fun q => ?_) (fun q => ?_) fun k hk => ?_
  · rw [State.setRecord_port, hs.dropNotice_port hn]
    simp [State.orderAfter, Record.owes, hx]
  · rw [State.setRecord_port, hs.dropNotice_port hn]
    simp [State.orderAfter, Record.owes, hx]
  · rw [State.setRecord_record_ne _ _ hk, State.dropNotice_record]

/-- A record that is written with the notice posted for it keeps the laws. -/
theorem State.NoticeLaws.post {s : State} (hs : s.NoticeLaws) {h : Handle} {n : Option Notice}
    {m : Notice} {x : Record} (hn : (s.record h).notice? = n) (hx : x.notice? = some m) :
    ((s.postNotice h n m).setRecord h x).NoticeLaws := by
  refine hs.renewed (h := h) (fun q => ?_) (fun q => ?_) fun k hk => ?_
  · rw [State.setRecord_port, hs.postNotice_port hn]
    simp [State.orderAfter, Record.owes, hx]
  · rw [State.setRecord_port, hs.postNotice_port hn]
    simp [State.orderAfter, Record.owes, hx]
  · rw [State.setRecord_record_ne _ _ hk, State.postNotice_record]

/-- A record written with the notice it carried keeps the laws. -/
theorem State.NoticeLaws.setRecord {s : State} (hs : s.NoticeLaws) {h : Handle} {x : Record}
    (hx : x.notice? = (s.record h).notice?) : (s.setRecord h x).NoticeLaws := by
  refine hs.ofSame (fun _ => rfl) fun k => ?_
  rw [State.setRecord_record]
  split
  · next hk => rw [hx, hk]
  · rfl

theorem State.NoticeLaws.onRail {s : State} (hs : s.NoticeLaws) (r : Rail)
    (g : Account → Account) : (s.onRail r g).NoticeLaws := hs.ofSame (fun _ => rfl) fun _ => rfl

theorem State.NoticeLaws.onChannel {s : State} (hs : s.NoticeLaws) (n : Output)
    (g : Channel → Channel) : (s.onChannel n g).NoticeLaws := hs.ofSame (fun _ => rfl) fun _ => rfl

theorem State.NoticeLaws.countChange {s : State} (hs : s.NoticeLaws) : s.countChange.NoticeLaws :=
  hs.ofSame (fun _ => rfl) fun _ => rfl

/-- A change of a port that keeps its order and its line keeps the laws. -/
theorem State.NoticeLaws.onPort {s : State} (hs : s.NoticeLaws) (p : Port)
    {g : PortState → PortState} (horder : ∀ ps, (g ps).noticeOrder = ps.noticeOrder)
    (hattn : ∀ ps, (g ps).attnLow = ps.attnLow) : (s.onPort p g).NoticeLaws := by
  refine hs.congr (fun q => ?_) (fun q => ?_) fun k => by rw [State.onPort_record]
  · rw [State.onPort_port]; split
    · next hq => rw [horder, hq]
    · rfl
  · rw [State.onPort_port]; split
    · next hq => rw [hattn, hq]
    · rfl

/-! ## The procedures -/

theorem State.NoticeLaws.withdraw {s : State} (hs : s.NoticeLaws) (h : Handle) :
    (s.withdraw h).NoticeLaws := hs.ofSame (fun p => by simp) fun k => by simp

theorem State.NoticeLaws.freeRecord {s : State} (hs : s.NoticeLaws) (h : Handle) :
    (s.freeRecord h).NoticeLaws := (hs.withdraw h).drop (by rw [State.withdraw_record]) rfl

theorem State.NoticeLaws.endRecord {s : State} (hs : s.NoticeLaws) (h : Handle) (reason : Reason) :
    (s.endRecord h reason).NoticeLaws := by
  rcases s.endRecord_cases h reason with he | ⟨b, c, -, -, he⟩
  · rw [he]; exact hs.freeRecord h
  · rw [he]; exact (hs.withdraw h).post (by rw [State.withdraw_record]) rfl

theorem State.NoticeLaws.grantWaiter {s : State} (hs : s.NoticeLaws) {h : Handle} {b : Booking}
    {c : Client} {term patience : Nat} (hx : s.record h = .waiting b c term patience) :
    (s.grantWaiter h b c term).NoticeLaws := by
  have hmoved : (((s.leaveList h b).joinGrants h b).onChannel b.output Channel.turnOn).NoticeLaws :=
    ((hs.onRail _ _).onRail _ _).onChannel _ _
  have hnone : (((s.leaveList h b).joinGrants h b).onChannel b.output
      Channel.turnOn |>.record h).notice? = none := by
    change (s.record h).notice? = none
    rw [hx]; rfl
  exact hmoved.post hnone rfl

theorem State.NoticeLaws.scan {s : State} (hs : s.NoticeLaws) (r : Rail) : (s.scan r).NoticeLaws :=
  State.scan_keeps (fun h hx _ => h.grantWaiter hx) hs

theorem State.NoticeLaws.revoke {s : State} (hs : s.NoticeLaws) (r : Rail) :
    (s.revoke r).NoticeLaws := State.revoke_keeps (fun k h => h.endRecord k _) r hs

theorem State.NoticeLaws.limitChange {s : State} (hs : s.NoticeLaws) (r : Rail) (old : Nat) :
    (s.limitChange r old).1.NoticeLaws := by
  obtain ⟨u, hu, heq⟩ := s.limitChange_cases r old
  have hlaws : u.NoticeLaws := by
    rcases hu with rfl | rfl | rfl
    · exact hs
    · exact hs.scan r
    · exact (hs.revoke r).scan r
  rcases heq with heq | heq
  · rw [heq]; exact hlaws
  · rw [heq]; exact hlaws.countChange

theorem State.NoticeLaws.giveWay {s : State} (hs : s.NoticeLaws) (old : Handle) (b : Booking) :
    (s.giveWay old b).NoticeLaws := by
  unfold State.giveWay
  split
  · next n hn => exact (hs.onRail _ _).post hn rfl
  · next hn => exact (hs.onRail _ _).setRecord hn.symm

/-- A FREE record written without a notice keeps the laws. -/
theorem State.NoticeLaws.take {s : State} (hs : s.NoticeLaws) {h : Handle} {x : Record}
    (hfree : s.lowestFree = some h) (hx : x.notice? = none) : (s.setRecord h x).NoticeLaws := by
  refine hs.setRecord ?_
  rw [Record.isFree_iff.1 (State.lowestFree_eq_some.1 hfree).1, hx]
  rfl

@[simp] theorem Record.renewed_notice (x : Record) (term countdown retries : Nat) :
    (x.renewed term countdown retries).notice? = x.notice? := by cases x <;> rfl

@[simp] theorem Record.withCurrent_notice (x : Record) (v : Nat) :
    (x.withCurrent v).notice? = x.notice? := by cases x <;> rfl

@[simp] theorem Record.restarted_notice (x : Record) : x.restarted.notice? = x.notice? := by
  cases x <;> rfl

@[simp] theorem Record.lowerCountdown_notice (x : Record) :
    x.lowerCountdown.notice? = x.notice? := by cases x <;> rfl

theorem Record.withoutNotice_notice {x : Record} (h : x.isEnded = false) :
    x.withoutNotice.notice? = none := by
  cases x with
  | ended => cases h
  | _ => rfl

@[simp] theorem Profile.keptRecord_notice (shadow : Profile) (x : Record) :
    (shadow.keptRecord x).notice? = none := by
  cases x with
  | granted | tripped => simp only [Profile.keptRecord]; split <;> rfl
  | _ => rfl

/-! ## Every act, and every step -/

/-- Where no port is owed a notice and no record carries one, the laws hold. -/
theorem State.NoticeLaws.ofNone {s : State} (horder : ∀ p, (s.port p).noticeOrder = [])
    (hattn : ∀ p, (s.port p).attnLow = false) (hnotice : ∀ h, (s.record h).notice? = none) :
    s.NoticeLaws where
  exact p := by rw [horder]; simp [Record.owes, hnotice]
  attn p := by rw [horder, hattn]; rfl

theorem State.withChannels_record (s : State) (v : Vector Channel 24) (h : Handle) :
    { s with channels := v }.record h = s.record h := rfl

theorem State.Acts.noticeLaws {s t : State} (hs : s.NoticeLaws) (h : s.Acts t) : t.NoticeLaws := by
  obtain ⟨_, h⟩ := h
  cases h with
  | idle => exact hs
  | grant hadm => exact (((hs.take hadm.free rfl).onRail _ _).onChannel _ _).countChange
  | wait hadm =>
    refine State.NoticeLaws.countChange ?_
    exact (hs.onRail _ _).take hadm.free rfl
  | claim hadm _ _ _ _ hfree =>
    refine ((((hs.giveWay _ _).take hfree ?_).onRail _ _).scan _).countChange
    split <;> rfl
  | release => exact ((hs.freeRecord _).scan _).countChange
  | finish => exact ((hs.endRecord _ _).scan _).countChange
  | renew => exact (hs.setRecord (Record.renewed_notice ..)).countChange
  | recount => exact hs.countChange
  | resizeWaiter => exact ((hs.setRecord (Record.withCurrent_notice ..)).scan _).countChange
  | resizeLower =>
    exact (((hs.setRecord (Record.withCurrent_notice ..)).onRail _ _).scan _).countChange
  | resizeRaise => exact ((hs.setRecord (Record.withCurrent_notice ..)).onRail _ _).countChange
  | ackEnded => exact (hs.freeRecord _).countChange
  | ackOther hn hended => exact (hs.drop hn (Record.withoutNotice_notice hended)).countChange
  | holdGranted hx | holdTripped hx => exact (hs.post (by rw [hx]; rfl) rfl).countChange
  | tripGranted hx =>
    exact ((hs.onChannel _ _).post (by rw [State.onChannel_record, hx]; rfl) rfl).countChange
  | tripHeld hx =>
    exact ((hs.onChannel _ _).setRecord (by rw [State.onChannel_record, hx]; rfl)).countChange
  | restart => exact ((hs.setRecord (Record.restarted_notice _)).onChannel _ _).countChange
  | tick due =>
    refine hs.ofSame (fun p => by simp) fun k => ?_
    rw [State.runFilters_record, State.runCountdowns_record]
    split <;> simp
  | restartAll =>
    exact .ofNone (fun p => by rw [State.restarted_port]) (fun p => by rw [State.restarted_port])
      fun h => by simp
  | limit => exact (hs.onRail _ _).limitChange _ _
  | filter => exact hs.onRail _ _
  | fault => exact hs.onChannel _ _
  | retryTick =>
    exact hs.ofSame (fun p => State.withChannels_port ..) fun _ =>
      congrArg Record.notice? (State.withChannels_record ..)
  | @pins p g draws hg =>
    have hport : ∀ q, { s.onPort p g with freeDraws := draws }.port q = (s.onPort p g).port q :=
      fun q => by cases q <;> rfl
    exact (hs.onPort p (fun ps => by rw [hg]) (fun ps => by rw [hg])).ofSame hport fun _ => rfl
  | capture | flip | copy | patience => exact hs.onPort _ (fun _ => rfl) fun _ => rfl
  | stage => exact hs.ofSame (fun p => by cases p <;> rfl) fun _ => rfl

/-- The acts of the store write no record, and of the ports neither order nor line. -/
structure State.KeepsTable (s t : State) : Prop where
  records : ∀ h, t.record h = s.record h
  orders : ∀ p, (t.port p).noticeOrder = (s.port p).noticeOrder
  attn : ∀ p, (t.port p).attnLow = (s.port p).attnLow

theorem State.StoreActs.keepsTable {s t : State} (h : s.StoreActs t) : s.KeepsTable t := by
  have onPort : ∀ {u : State} {p : Port} {g : PortState → PortState},
      (∀ h, u.record h = s.record h) → (∀ q, u.port q = s.port q) →
      (∀ ps, (g ps).noticeOrder = ps.noticeOrder) → (∀ ps, (g ps).attnLow = ps.attnLow) →
      s.KeepsTable (u.onPort p g) := by
    intro u p g hu hp ho ha
    refine ⟨fun h => by rw [State.onPort_record, hu], fun q => ?_, fun q => ?_⟩
    · rw [State.onPort_port]
      split
      · next hq => rw [ho, hp, hq]
      · rw [hp]
    · rw [State.onPort_port]
      split
      · next hq => rw [ha, hp, hq]
      · rw [hp]
  obtain ⟨_, h⟩ := h
  cases h with
  | write | reload =>
    exact onPort (fun _ => rfl) (fun q => by cases q <;> rfl) (fun _ => rfl) fun _ => rfl
  | openPart | readRow | resetEnd =>
    exact ⟨fun _ => rfl, fun p => by cases p <;> rfl, fun p => by cases p <;> rfl⟩
  | closePart => exact ⟨fun _ => rfl, fun p => by cases p <;> rfl, fun p => by cases p <;> rfl⟩
  | endLoad =>
    refine ⟨fun h => by rw [State.endLoad_eq]; rfl, fun p => ?_, fun p => ?_⟩
    · rw [State.endLoad_port, State.withRowRead_port]
    · rw [State.endLoad_port, State.withRowRead_port]
  | complete =>
    refine ⟨fun h => by rw [State.completed_eq, State.stored_eq]; rfl, fun p => ?_, fun p => ?_⟩
    · rw [State.completed_port]
    · rw [State.completed_port]

theorem State.coldReset_record (s : State) (cause : ResetCause) (h : Handle) :
    (s.coldReset cause).record h = .free := s.enterColdReset_record h

/-- A port in cold reset is as Tables 7-8, 8-8 and 11-8 have it, but for its pins. -/
theorem State.coldReset_port (s : State) (cause : ResetCause) (p : Port) :
    ∃ shifter dataOut, (s.coldReset cause).port p = PortState.coldReset shifter dataOut := by
  obtain ⟨level, hport⟩ := s.enterColdReset_port p
  have hkeep : (s.coldReset cause).port p = s.enterColdReset.port p := by cases p <;> rfl
  exact ⟨_, _, hkeep.trans hport⟩

theorem State.coldReset_noticeLaws (s : State) (cause : ResetCause) :
    (s.coldReset cause).NoticeLaws := by
  refine .ofNone (fun p => ?_) (fun p => ?_) fun h => by rw [State.coldReset_record]; rfl
  · obtain ⟨_, _, hport⟩ := s.coldReset_port cause p
    rw [hport]; rfl
  · obtain ⟨_, _, hport⟩ := s.coldReset_port cause p
    rw [hport]; rfl

theorem State.StoreActs.noticeLaws {s t : State} (hs : s.NoticeLaws) (h : s.StoreActs t) :
    t.NoticeLaws :=
  hs.congr h.keepsTable.orders h.keepsTable.attn fun k => by rw [h.keepsTable.records]

/-- Settles O8: a notice that is set or dropped moves its record's handle as the laws ask, and
nothing else writes an order. -/
theorem stepKeepsNoticeOrders : Obligations.StepKeepsNoticeOrders := by
  intro s t hexact hattn ht
  have hlaws : t.NoticeLaws := step_keeps (P := State.NoticeLaws)
    (fun _ h => h.ofSame (fun p => by cases p <;> rfl) fun _ => rfl) (fun h ha => ha.noticeLaws h)
    (fun h ha => ha.noticeLaws h) (fun cause _ => State.coldReset_noticeLaws _ cause)
    (fun p _ _ h => h.onPort p (fun _ => rfl) fun _ => rfl) ⟨hexact, hattn⟩ ht
  exact ⟨hlaws.exact, hlaws.attn⟩

end Sys2Proof.Machine
end

section
/-! PROOFS. The laws of the Lease Table one by one: what the waiting lists, the grant orders, the
channels and the quotas read of a record, and what keeps each of them when one record is written. -/

namespace Sys2Proof.Machine

/-! ## What a record is to the lists and to its channel -/

/-- The rail a record waits for and its class, if it is WAITING (R48). -/
def Record.waits? : Record → Option (Rail × LeaseClass)
  | .waiting b _ _ _ => some (b.rail, b.cls)
  | _ => none

/-- The rail a record commits current on and the current, if it is committing (R28). -/
def Record.commits? : Record → Option (Rail × Nat)
  | .granted b _ _ _ _ _ | .tripped b _ _ _ _ _ => some (b.rail, b.current)
  | .deviceTripped b _ _ | .held b _ _ => some (b.rail, b.current)
  | _ => none

/-- The state in which a covering record holds its channel (R87). -/
def Record.driven : Record → ChannelState
  | .granted _ _ _ _ _ _ | .held _ _ _ => .on
  | .tripped _ _ _ _ _ _ | .deviceTripped _ _ _ => .retry
  | _ => .off

theorem Record.waits?_iff {x : Record} {r : Rail} :
    x.isWaiting = true ∧ x.onRail r = true ↔ ∃ c, x.waits? = some (r, c) := by
  cases x <;> simp [Record.isWaiting, Record.onRail, Record.booking?, Record.waits?]

theorem Record.commits?_iff {x : Record} {r : Rail} :
    x.isCommitting = true ∧ x.onRail r = true ↔ ∃ d, x.commits? = some (r, d) := by
  cases x <;> simp [Record.isCommitting, Record.onRail, Record.booking?, Record.commits?]

theorem Record.currentOr0_of_commits {x : Record} {r : Rail} {d : Nat}
    (h : x.commits? = some (r, d)) : x.currentOr0 = d := by
  cases x <;> simp_all [Record.commits?, Record.currentOr0, Record.booking?]

theorem Record.classLe_of_waits {x y : Record} {r r' : Rail} {c c' : LeaseClass}
    (hx : x.waits? = some (r, c)) (hy : y.waits? = some (r', c')) :
    x.classLe y = true ↔ c ≤ c' := by
  cases x <;> cases y <;> simp_all [Record.waits?, Record.classLe, Record.booking?]

theorem Record.cls_of_waits {x : Record} {r : Rail} {c : LeaseClass} {b : Booking}
    (hx : x.waits? = some (r, c)) (hb : x.booking? = some b) : b.cls = c := by
  cases x <;> simp_all [Record.waits?, Record.booking?]

theorem Record.waits?_eq_none_iff {x : Record} : x.waits? = none ↔ x.isWaiting = false := by
  cases x <;> simp [Record.waits?, Record.isWaiting]

theorem Record.commits?_eq_none_iff {x : Record} : x.commits? = none ↔ x.isCommitting = false := by
  cases x <;> simp [Record.commits?, Record.isCommitting]

/-- A record is not both a waiter and committing. -/
theorem Record.isWaiting_eq_false_of_isCommitting {x : Record} (h : x.isCommitting = true) :
    x.isWaiting = false := by
  cases x with
  | waiting => cases h
  | _ => rfl

theorem Record.isCommitting_eq_false_of_isWaiting {x : Record} (h : x.isWaiting = true) :
    x.isCommitting = false := by
  cases x with
  | waiting => rfl
  | _ => cases h

/-- A covering record is a waiter or committing (R2). -/
theorem Record.covers_iff {x : Record} {n : Output} :
    x.covers n = true ↔
      (x.isWaiting = true ∨ x.isCommitting = true) ∧ ∃ b, x.booking? = some b ∧ b.output = n := by
  simp [Record.covers, Option.any_eq_true]

/-- A record that is neither covers nothing. -/
theorem Record.covers_eq_false {x : Record} (hw : x.waits? = none) (hc : x.commits? = none)
    (n : Output) : x.covers n = false := by
  rw [Record.waits?_eq_none_iff] at hw
  rw [Record.commits?_eq_none_iff] at hc
  simp [Record.covers, hw, hc]

/-- A record covers at most one output. -/
theorem Record.covers_unique {x : Record} {n m : Output} (hn : x.covers n = true)
    (hm : x.covers m = true) : n = m := by
  obtain ⟨-, b, hb, rfl⟩ := Record.covers_iff.1 hn
  obtain ⟨-, b', hb', rfl⟩ := Record.covers_iff.1 hm
  rw [hb] at hb'; cases hb'; rfl

theorem Record.isOn_iff_driven {x : Record} : x.isOn = true ↔ x.driven = .on := by
  cases x <;> simp [Record.isOn, Record.driven]

theorem Record.isTripped_iff_driven {x : Record} : x.isTripped = true ↔ x.driven = .retry := by
  cases x <;> simp [Record.isTripped, Record.driven]

/-! ## The waiting lists -/

theorem State.WaitingListsExact.nodup {s : State} (hs : s.WaitingListsExact) (r : Rail) :
    (s.rail r).waiting.Nodup := (hs r).1

theorem State.WaitingListsExact.mem_waits {s : State} (hs : s.WaitingListsExact) {r : Rail}
    {h : Handle} : h ∈ (s.rail r).waiting ↔ ∃ c, (s.record h).waits? = some (r, c) :=
  hs.mem_iff.trans Record.waits?_iff

/-- Lists cut down to the records that still wait stay exact. -/
theorem State.WaitingListsExact.ofSublist {s t : State} (hs : s.WaitingListsExact)
    (hsub : ∀ r, (t.rail r).waiting.Sublist (s.rail r).waiting)
    (hmem : ∀ r k, k ∈ (t.rail r).waiting ↔
      k ∈ (s.rail r).waiting ∧ (t.record k).waits? ≠ none)
    (hrec : ∀ k, (t.record k).waits? = none ∨ (t.record k).waits? = (s.record k).waits?) :
    t.WaitingListsExact := by
  have hmem' : ∀ r k, k ∈ (t.rail r).waiting ↔ ∃ c, (t.record k).waits? = some (r, c) := by
    intro r k
    rw [hmem, hs.mem_waits]
    rcases hrec k with hk | hk
    · simp [hk]
    · rw [hk]
      exact ⟨fun h => h.1, fun h => ⟨h, by obtain ⟨c, hc⟩ := h; simp [hc]⟩⟩
  refine fun r => ⟨(hs.nodup r).sublist (hsub r), fun k => (hmem' r k).trans
    Record.waits?_iff.symm, ?_⟩
  refine ((hs.ordered r).sublist (hsub r)).imp_of_mem fun {x y} hx hy hle => ?_
  obtain ⟨c, hc⟩ := (hmem' r x).1 hx
  obtain ⟨c', hc'⟩ := (hmem' r y).1 hy
  have hsx := (hrec x).resolve_left (by simp [hc])
  have hsy := (hrec y).resolve_left (by simp [hc'])
  rw [Record.classLe_of_waits hc hc', ← Record.classLe_of_waits (hsx ▸ hc) (hsy ▸ hc')]
  exact hle

theorem State.WaitingListsExact.congr {s t : State} (hs : s.WaitingListsExact)
    (hlist : ∀ r, (t.rail r).waiting = (s.rail r).waiting)
    (hrec : ∀ k, (t.record k).waits? = (s.record k).waits?) : t.WaitingListsExact := by
  refine hs.ofSublist (fun r => by rw [hlist]) (fun r k => ?_) fun k => .inr (hrec k)
  rw [hlist, hs.mem_waits, hrec]
  exact ⟨fun h => ⟨h, by obtain ⟨c, hc⟩ := h; simp [hc]⟩, fun h => h.1⟩

/-- A record out of its list, and waiting no more, leaves the lists exact (R51). -/
theorem State.WaitingListsExact.leave {s t : State} (hs : s.WaitingListsExact) {h : Handle}
    (hlist : ∀ r, (t.rail r).waiting = (s.rail r).waiting.erase h)
    (hh : (t.record h).waits? = none)
    (hrec : ∀ k, k ≠ h → (t.record k).waits? = (s.record k).waits?) : t.WaitingListsExact := by
  refine hs.ofSublist (fun r => by rw [hlist]; exact List.erase_sublist) (fun r k => ?_) fun k => ?_
  · rw [hlist, (hs.nodup r).mem_erase_iff]
    by_cases hk : k = h
    · subst hk; simp [hh]
    · rw [hrec k hk, hs.mem_waits]
      exact ⟨fun h => ⟨h.2, by obtain ⟨c, hc⟩ := h.2; simp [hc]⟩, fun h => ⟨hk, h.1⟩⟩
  · by_cases hk : k = h
    · exact .inl (hk ▸ hh)
    · exact .inr (hrec k hk)

/-- A new waiter placed by its class leaves the lists exact (R49). -/
theorem State.WaitingListsExact.enter {s t : State} (hs : s.WaitingListsExact) {h : Handle}
    {r₀ : Rail} {c : LeaseClass} (hnot : (s.record h).waits? = none)
    (hh : (t.record h).waits? = some (r₀, c))
    (hlist : (t.rail r₀).waiting = s.placeWaiter h c (s.rail r₀).waiting)
    (hother : ∀ r, r ≠ r₀ → (t.rail r).waiting = (s.rail r).waiting)
    (hrec : ∀ k, k ≠ h → (t.record k).waits? = (s.record k).waits?) : t.WaitingListsExact := by
  have hout : ∀ r, h ∉ (s.rail r).waiting := fun r hin => by
    obtain ⟨c, hc⟩ := hs.mem_waits.1 hin; simp [hnot] at hc
  have hkeep : ∀ {r k}, k ∈ (s.rail r).waiting → (t.record k).waits? = (s.record k).waits? :=
    fun {r k} hk => hrec k fun he => hout r (he ▸ hk)
  have hmem : ∀ r k, k ∈ (s.rail r).waiting ↔ k ≠ h ∧ ∃ c, (t.record k).waits? = some (r, c) := by
    intro r k
    by_cases hk : k = h
    · subst hk; simp [hout r]
    · rw [hrec k hk, hs.mem_waits]; simp [hk]
  have hle : ∀ {r x y}, x ∈ (s.rail r).waiting → y ∈ (s.rail r).waiting →
      (s.record x).classLe (s.record y) = true → (t.record x).classLe (t.record y) = true := by
    intro r x y hx hy hxy
    obtain ⟨c, hc⟩ := hs.mem_waits.1 hx
    obtain ⟨c', hc'⟩ := hs.mem_waits.1 hy
    rw [Record.classLe_of_waits ((hkeep hx).trans hc) ((hkeep hy).trans hc'),
      ← Record.classLe_of_waits hc hc']
    exact hxy
  intro r
  by_cases hr : r = r₀
  · subst hr
    have hparts := List.takeWhile_append_dropWhile (p := fun x => !(s.record x).waitsBehind c)
      (l := (s.rail r).waiting)
    have hperm : (t.rail r).waiting.Perm (h :: (s.rail r).waiting) := by
      rw [hlist, State.placeWaiter_eq]
      exact List.perm_middle.trans (by rw [hparts])
    refine ⟨hperm.nodup_iff.2 (List.nodup_cons.2 ⟨hout r, hs.nodup r⟩), fun k => ?_, ?_⟩
    · rw [hperm.mem_iff, List.mem_cons, hmem, Record.waits?_iff]
      by_cases hk : k = h
      · simp [hk, hh]
      · simp [hk]
    · have hsplit : ((s.rail r).waiting.takeWhile (fun x => !(s.record x).waitsBehind c)
          ++ (s.rail r).waiting.dropWhile (fun x => !(s.record x).waitsBehind c)).Pairwise
          (fun x y => (s.record x).classLe (s.record y) = true) := by
        rw [hparts]; exact hs.ordered r
      have hahead : ∀ x ∈ (s.rail r).waiting.takeWhile (fun x => !(s.record x).waitsBehind c),
          (t.record x).classLe (t.record h) = true := fun x hx => by
        obtain ⟨b, hb, hbc⟩ := hs.cls_ahead hx
        have hin := (List.takeWhile_sublist _).subset hx
        obtain ⟨d, hd⟩ := hs.mem_waits.1 hin
        rw [Record.classLe_of_waits ((hkeep hin).trans hd) hh, ← Record.cls_of_waits hd hb]
        exact hbc
      have hbehind : ∀ x ∈ (s.rail r).waiting.dropWhile (fun x => !(s.record x).waitsBehind c),
          (t.record h).classLe (t.record x) = true := fun x hx => by
        obtain ⟨b, hb, hbc⟩ := hs.cls_behind hx
        have hin := (List.dropWhile_sublist _).subset hx
        obtain ⟨d, hd⟩ := hs.mem_waits.1 hin
        rw [Record.classLe_of_waits hh ((hkeep hin).trans hd), ← Record.cls_of_waits hd hb]
        exact hbc.le
      rw [hlist, State.placeWaiter_eq]
      rw [List.pairwise_append] at hsplit ⊢
      obtain ⟨h1, h2, h3⟩ := hsplit
      have hin1 := (List.takeWhile_sublist (fun x => !(s.record x).waitsBehind c)
        (l := (s.rail r).waiting)).subset
      have hin2 := (List.dropWhile_sublist (fun x => !(s.record x).waitsBehind c)
        (l := (s.rail r).waiting)).subset
      refine ⟨h1.imp_of_mem fun hx hy => hle (hin1 hx) (hin1 hy), ?_, fun x hx y hy => ?_⟩
      · exact List.pairwise_cons.2 ⟨hbehind, h2.imp_of_mem fun hx hy => hle (hin2 hx) (hin2 hy)⟩
      · rcases List.mem_cons.1 hy with rfl | hy
        · exact hahead x hx
        · exact hle (hin1 hx) (hin2 hy) (h3 x hx y hy)
  · rw [hother r hr]
    refine ⟨hs.nodup r, fun k => ?_, (hs.ordered r).imp_of_mem fun hx hy => hle hx hy⟩
    rw [hmem, Record.waits?_iff]
    by_cases hk : k = h
    · subst hk
      have hne : ¬ r₀ = r := fun he => hr he.symm
      simp [hh, hne]
    · simp [hk]

/-! ## The grant orders -/

theorem State.GrantOrdersExact.mem_commits {s : State} (hs : s.GrantOrdersExact) {r : Rail}
    {h : Handle} : h ∈ (s.rail r).grantOrder ↔ ∃ d, (s.record h).commits? = some (r, d) :=
  hs.mem_iff.trans Record.commits?_iff

/-- The currents on a list of committing records are what the records commit. -/
theorem sum_current_congr {s t : State} {l : List Handle} {r : Rail}
    (h : ∀ k ∈ l, ∃ d, (s.record k).commits? = some (r, d) ∧ (t.record k).commits? = some (r, d)) :
    (l.map (fun k => (t.record k).currentOr0)).sum =
      (l.map (fun k => (s.record k).currentOr0)).sum := by
  refine congrArg List.sum (List.map_congr_left fun k hk => ?_)
  obtain ⟨d, hs, ht⟩ := h k hk
  rw [Record.currentOr0_of_commits hs, Record.currentOr0_of_commits ht]

/-- A record out of its order, with its current given up, leaves the orders exact (R5, R28). -/
theorem State.GrantOrdersExact.leave {s t : State} (hs : s.GrantOrdersExact) {h : Handle}
    (hlist : ∀ r, (t.rail r).grantOrder = (s.rail r).grantOrder.erase h)
    (hsum : ∀ r, (t.rail r).committed =
      (((s.rail r).grantOrder.erase h).map (fun k => (s.record k).currentOr0)).sum)
    (hh : (t.record h).commits? = none)
    (hrec : ∀ k, k ≠ h → (t.record k).commits? = (s.record k).commits?) : t.GrantOrdersExact := by
  have hmem : ∀ r k, k ∈ (s.rail r).grantOrder.erase h ↔
      k ≠ h ∧ ∃ d, (s.record k).commits? = some (r, d) := fun r k => by
    rw [(hs.nodup r).mem_erase_iff, hs.mem_commits]
  refine fun r => ⟨by rw [hlist]; exact (hs.nodup r).erase h, fun k => ?_, ?_⟩
  · rw [hlist, hmem, Record.commits?_iff]
    by_cases hk : k = h
    · simp [hk, hh]
    · simp [hk, hrec k hk]
  · rw [hlist, hsum]
    refine (sum_current_congr (r := r) fun k hk => ?_).symm
    obtain ⟨hne, d, hd⟩ := (hmem r k).1 hk
    exact ⟨d, hd, (hrec k hne).trans hd⟩

/-- Orders and committed kept, and every record committing what it did, keep the orders exact. -/
theorem State.GrantOrdersExact.congr {s t : State} (hs : s.GrantOrdersExact)
    (hlist : ∀ r, (t.rail r).grantOrder = (s.rail r).grantOrder)
    (hsum : ∀ r, (t.rail r).committed = (s.rail r).committed)
    (hrec : ∀ k, (t.record k).commits? = (s.record k).commits?) : t.GrantOrdersExact := by
  refine fun r => ⟨by rw [hlist]; exact hs.nodup r, fun k => ?_, ?_⟩
  · rw [hlist, hs.mem_commits, Record.commits?_iff, hrec]
  · rw [hlist, hsum, hs.committed_eq]
    refine (sum_current_congr (r := r) fun k hk => ?_).symm
    obtain ⟨d, hd⟩ := hs.mem_commits.1 hk
    exact ⟨d, hd, (hrec k).trans hd⟩

/-- A new lease last in its rail's order, with its current committed, leaves the orders exact (R28,
R32). -/
theorem State.GrantOrdersExact.join {s t : State} (hs : s.GrantOrdersExact) {h : Handle}
    {r₀ : Rail} {d : Nat} (hnot : (s.record h).commits? = none)
    (hh : (t.record h).commits? = some (r₀, d))
    (hlist : (t.rail r₀).grantOrder = (s.rail r₀).grantOrder ++ [h])
    (hsum : (t.rail r₀).committed = (s.rail r₀).committed + d)
    (hother : ∀ r, r ≠ r₀ → (t.rail r).grantOrder = (s.rail r).grantOrder
      ∧ (t.rail r).committed = (s.rail r).committed)
    (hrec : ∀ k, k ≠ h → (t.record k).commits? = (s.record k).commits?) : t.GrantOrdersExact := by
  have hout : ∀ r, h ∉ (s.rail r).grantOrder := fun r hin => by
    obtain ⟨c, hc⟩ := hs.mem_commits.1 hin; simp [hnot] at hc
  have hmem : ∀ r k, k ∈ (s.rail r).grantOrder ↔
      k ≠ h ∧ ∃ d, (t.record k).commits? = some (r, d) := by
    intro r k
    by_cases hk : k = h
    · subst hk; simp [hout r]
    · rw [hrec k hk, hs.mem_commits]; simp [hk]
  have hcurrents : ∀ r, ((s.rail r).grantOrder.map (fun k => (t.record k).currentOr0)).sum =
      ((s.rail r).grantOrder.map (fun k => (s.record k).currentOr0)).sum := fun r => by
    refine sum_current_congr (r := r) fun k hk => ?_
    obtain ⟨d, hd⟩ := hs.mem_commits.1 hk
    exact ⟨d, hd, (hrec k fun he => hout r (he ▸ hk)).trans hd⟩
  intro r
  by_cases hr : r = r₀
  · subst hr
    rw [hlist, hsum]
    refine ⟨List.Nodup.append (hs.nodup r) (by simp) (by simpa using hout r), fun k => ?_, ?_⟩
    · rw [List.mem_append, List.mem_singleton, hmem, Record.commits?_iff]
      by_cases hk : k = h
      · simp [hk, hh]
      · simp [hk]
    · simp [hcurrents, hs.committed_eq, Record.currentOr0_of_commits hh]
  · obtain ⟨ho, hc⟩ := hother r hr
    rw [ho, hc]
    refine ⟨hs.nodup r, fun k => ?_, by rw [hcurrents, hs.committed_eq]⟩
    rw [hmem, Record.commits?_iff]
    by_cases hk : k = h
    · subst hk
      have hne : ¬ r₀ = r := fun he => hr he.symm
      simp [hh, hne]
    · simp [hk]

/-- A committing record whose current is written anew, and committed with it, leaves the orders
exact (R41, R42). -/
theorem State.GrantOrdersExact.resize {s t : State} (hs : s.GrantOrdersExact) {h : Handle}
    {r₀ : Rail} {d d' : Nat} (hwas : (s.record h).commits? = some (r₀, d))
    (hh : (t.record h).commits? = some (r₀, d'))
    (hlist : ∀ r, (t.rail r).grantOrder = (s.rail r).grantOrder)
    (hsum : (t.rail r₀).committed + d = (s.rail r₀).committed + d')
    (hother : ∀ r, r ≠ r₀ → (t.rail r).committed = (s.rail r).committed)
    (hrec : ∀ k, k ≠ h → (t.record k).commits? = (s.record k).commits?) : t.GrantOrdersExact := by
  have hmem : ∀ r k, k ∈ (s.rail r).grantOrder ↔ ∃ d, (t.record k).commits? = some (r, d) := by
    intro r k
    rw [hs.mem_commits]
    by_cases hk : k = h
    · subst hk; simp [hwas, hh]
    · rw [hrec k hk]
  refine fun r => ⟨by rw [hlist]; exact hs.nodup r, fun k => by
    rw [hlist, hmem, Record.commits?_iff], ?_⟩
  have hkeep : ∀ k ∈ (s.rail r).grantOrder.erase h,
      ∃ d, (s.record k).commits? = some (r, d) ∧ (t.record k).commits? = some (r, d) := fun k hk => by
    obtain ⟨hne, hin⟩ := (hs.nodup r).mem_erase_iff.1 hk
    obtain ⟨d, hd⟩ := hs.mem_commits.1 hin
    exact ⟨d, hd, (hrec k hne).trans hd⟩
  have hcommitted := hs.committed_eq r
  rw [hlist]
  by_cases hin : h ∈ (s.rail r).grantOrder
  · obtain rfl : r = r₀ := by
      obtain ⟨e, he⟩ := hs.mem_commits.1 hin
      rw [hwas] at he; cases he; rfl
    have hold := List.sum_map_erase (fun k => (s.record k).currentOr0) hin
    have hnew := List.sum_map_erase (fun k => (t.record k).currentOr0) hin
    rw [sum_current_congr hkeep, Record.currentOr0_of_commits hh] at hnew
    rw [Record.currentOr0_of_commits hwas] at hold
    omega
  · have hne : r ≠ r₀ := fun he => hin (hs.mem_commits.2 ⟨d, he ▸ hwas⟩)
    rw [List.erase_of_not_mem hin] at hkeep
    rw [hother r hne, sum_current_congr hkeep, hcommitted]

end Sys2Proof.Machine
end

section
/-! PROOFS. The laws of the Lease Table and the channels together, and what each procedure of the
table keeps of them. -/

namespace Sys2Proof.Machine

/-! ## Channels -/

/-- A channel is as Table 6-2 has it, and its barred flag shows in its state (R86, R97). -/
def Channel.Lawful (c : Channel) : Prop := c.Shaped ∧ (c.barred = true ↔ c.state = .barred)

theorem Channel.Lawful.ofOff {c : Channel} (hs : c.state = .off) (he : c.enableHigh = false)
    (hb : c.barred = false) (ht : c.retryTimer = none) (hr : c.tripRaised = false) : c.Lawful := by
  simp [Channel.Lawful, Channel.Shaped, hs, he, hb, ht, hr]

theorem Channel.Lawful.turnOff {c : Channel} (hc : c.Lawful) : c.turnOff.Lawful := by
  have hflag := hc.2
  unfold Channel.turnOff
  split
  · next h => exact .ofOff rfl rfl (by simpa [h] using hflag) rfl rfl
  · next h => exact .ofOff rfl rfl (by simpa [h] using hflag) rfl rfl
  · exact hc
  · exact hc

theorem Channel.Lawful.turnOn {c : Channel} (hb : c.barred = false) : c.turnOn.Lawful := by
  simp [Channel.Lawful, Channel.Shaped, Channel.turnOn, hb]

theorem Channel.Lawful.startRetry {c : Channel} (hb : c.barred = false) (delay : Nat) :
    (c.startRetry delay).Lawful := by
  simp [Channel.Lawful, Channel.Shaped, Channel.startRetry, hb]

theorem Channel.Lawful.judgeBarred (c : Channel) (barred : Bool) :
    (c.judgeBarred barred).Lawful := by
  cases barred <;> simp [Channel.Lawful, Channel.Shaped, Channel.judgeBarred]

theorem Channel.Lawful.lowerTimer {c : Channel} (hc : c.Lawful) : c.lowerTimer.Lawful := by
  simpa [Channel.Lawful, Channel.Shaped, Channel.lowerTimer] using hc

/-- A fault input may fall and rise, and a trip be raised while the channel is ON (R88). -/
theorem Channel.Lawful.fault {c : Channel} (hc : c.Lawful) {g : Channel → Channel}
    (hg : g c = { c with faultLow := (g c).faultLow, tripRaised := (g c).tripRaised })
    (hraised : (g c).tripRaised = true → c.tripRaised = true ∨ c.state = .on) : (g c).Lawful := by
  obtain ⟨⟨henable, htimer, htrip, hbarred⟩, hflag⟩ := hc
  have hon : (g c).tripRaised = true → c.state = .on := fun h => (hraised h).elim htrip id
  rw [hg]
  exact ⟨⟨henable, htimer, hon, hbarred⟩, hflag⟩

/-- A channel turned off drives nothing. -/
theorem Channel.turnOff_state (c : Channel) :
    c.turnOff.state ≠ .on ∧ c.turnOff.state ≠ .retry := by
  unfold Channel.turnOff
  split <;> simp_all

/-! ## Records and the channels they drive -/

/-- No output is covered twice, each covering record holds its channel as its state says, and no
other channel is ON or in RETRY (R2, R87). -/
structure State.DriveLaws (s : State) : Prop where
  once : s.CoversOnce
  driven : ∀ h n, (s.record h).covers n = true → (s.channel n).state = (s.record h).driven
  undriven : ∀ n, (∀ h, (s.record h).covers n = false) →
    (s.channel n).state ≠ .on ∧ (s.channel n).state ≠ .retry

/-- Record `h` written anew keeps the laws, where the channels follow it and no other record covers
what it covers. -/
theorem State.DriveLaws.written {s t : State} (hs : s.DriveLaws) {h : Handle}
    (hrec : ∀ k, k ≠ h → t.record k = s.record k)
    (hown : ∀ n, (t.record h).covers n = true → ∀ k, k ≠ h → (s.record k).covers n = false)
    (hon : ∀ n, (t.record h).covers n = true → (t.channel n).state = (t.record h).driven)
    (hoff : ∀ n, (s.record h).covers n = true → (t.record h).covers n = false →
      (t.channel n).state ≠ .on ∧ (t.channel n).state ≠ .retry)
    (hsame : ∀ n, (s.record h).covers n = false → (t.record h).covers n = false →
      (t.channel n).state = (s.channel n).state) : t.DriveLaws where
  once k k' n hk hk' := by
    by_cases h1 : k = h <;> by_cases h2 : k' = h
    · rw [h1, h2]
    · subst h1; rw [hrec k' h2, hown n hk k' h2] at hk'; cases hk'
    · subst h2; rw [hrec k h1, hown n hk' k h1] at hk; cases hk
    · rw [hrec k h1] at hk; rw [hrec k' h2] at hk'; exact hs.once k k' n hk hk'
  driven k n hk := by
    by_cases h1 : k = h
    · subst h1; exact hon n hk
    · have hk' := hk
      rw [hrec k h1] at hk ⊢
      have hx : (s.record h).covers n = false := by
        refine Bool.eq_false_iff.2 fun hx => h1 (hs.once k h n hk hx)
      have hy : (t.record h).covers n = false := by
        refine Bool.eq_false_iff.2 fun hy => ?_
        rw [hown n hy k h1] at hk; cases hk
      rw [hsame n hx hy]
      exact hs.driven k n hk
  undriven n hn := by
    by_cases hx : (s.record h).covers n = true
    · exact hoff n hx (hn h)
    · rw [Bool.not_eq_true] at hx
      rw [hsame n hx (hn h)]
      refine hs.undriven n fun k => ?_
      by_cases h1 : k = h
      · exact h1 ▸ hx
      · rw [← hrec k h1]; exact hn k

/-- Records that cover and drive what they did, over channels in the states they were in, keep the
laws. -/
theorem State.DriveLaws.congr {s t : State} (hs : s.DriveLaws)
    (hcovers : ∀ k n, (t.record k).covers n = (s.record k).covers n)
    (hdriven : ∀ k, (t.record k).driven = (s.record k).driven)
    (hstate : ∀ n, (t.channel n).state = (s.channel n).state) : t.DriveLaws where
  once k k' n hk hk' := hs.once k k' n (hcovers k n ▸ hk) (hcovers k' n ▸ hk')
  driven k n hk := by rw [hstate, hdriven]; exact hs.driven k n (hcovers k n ▸ hk)
  undriven n hn := by
    rw [hstate]; exact hs.undriven n fun k => by rw [← hcovers k n]; exact hn k

/-- A record's notice fits its state, it names no barred output, and where it covers an output it is
on the rail of the output's row (R3, R12, R4). -/
structure Record.Lawful (s : State) (x : Record) : Prop where
  notice : x.noticeFits = true
  unbarred : ∀ b ∈ x.booking?, (s.channel b.output).barred = false
  rail : ∀ o, x.covers o = true → x.onRail (s.outputRow o).rail = true

theorem Record.Lawful.free (s : State) : Record.Lawful s .free :=
  ⟨rfl, by simp [Record.booking?],
    by simp [Record.covers, Record.isWaiting, Record.isCommitting, Record.booking?]⟩

theorem Record.Lawful.quiet {s t : State} {x : Record} (hx : x.Lawful s) (h : s.Quiet t) :
    x.Lawful t where
  notice := hx.notice
  unbarred b hb := by rw [h.barred]; exact hx.unbarred b hb
  rail o ho := by
    have hrow : t.outputRow o = s.outputRow o := by rw [State.outputRow, h.shadow]; rfl
    rw [hrow]; exact hx.rail o ho

/-- A record on the booking of a lawful one, and covering no more, is lawful where its
notice fits. -/
theorem Record.Lawful.ofBooking {s : State} {x y : Record} (hx : x.Lawful s)
    (hnotice : y.noticeFits = true) (hbook : ∀ b' ∈ y.booking?, ∃ b ∈ x.booking?,
      b'.output = b.output ∧ b'.rail = b.rail)
    (hcovers : ∀ o, y.covers o = true → x.covers o = true) : y.Lawful s where
  notice := hnotice
  unbarred b' hb' := by
    obtain ⟨b, hb, ho, -⟩ := hbook b' hb'
    rw [ho]; exact hx.unbarred b hb
  rail o ho := by
    obtain ⟨-, b', hb', -⟩ := Record.covers_iff.1 ho
    obtain ⟨b, hb, -, hr⟩ := hbook b' hb'
    have hon := hx.rail o (hcovers o ho)
    rw [Option.mem_def] at hb
    simp only [Record.onRail, hb, hb', Option.any_some, decide_eq_true_eq] at hon ⊢
    rw [hr]; exact hon

/-! ## The laws together -/

/-- The laws of the Lease Table and the channels that no limit enters: of the lists, the orders, the
channels, each record and the quotas. -/
structure State.TableLaws (s : State) : Prop where
  waiting : s.WaitingListsExact
  grants : s.GrantOrdersExact
  drives : s.DriveLaws
  channels : ∀ n, (s.channel n).Lawful
  records : ∀ h, (s.record h).Lawful s
  quotas : s.WithinQuotas

theorem State.counted_le {s t : State} {p : Port}
    (h : ∀ k, (t.record k).countsAgainst = some p → (s.record k).countsAgainst = some p) :
    t.counted p ≤ s.counted p :=
  List.countP_mono_left fun k _ hk => by simpa using h k (by simpa using hk)

theorem State.Quiet.portRow {s t : State} (h : s.Quiet t) (p : Port) :
    t.portRow p = s.portRow p := by
  rw [State.portRow, h.shadow]; rfl

theorem State.Quiet.outputRow {s t : State} (h : s.Quiet t) (n : Output) :
    t.outputRow n = s.outputRow n := by rw [State.outputRow, h.shadow]; rfl

/-- Record `h` written anew keeps the laws, where each of them is kept. -/
theorem State.TableLaws.written {s t : State} (hs : s.TableLaws) (hq : s.Quiet t) {h : Handle}
    (hrec : ∀ k, k ≠ h → t.record k = s.record k) (hw : t.WaitingListsExact)
    (hg : t.GrantOrdersExact) (hd : t.DriveLaws) (hc : ∀ n, (t.channel n).Lawful)
    (hl : (t.record h).Lawful s)
    (hcount : ∀ p, (t.record h).countsAgainst = some p → (s.record h).countsAgainst = some p) :
    t.TableLaws where
  waiting := hw
  grants := hg
  drives := hd
  channels := hc
  records k := by
    by_cases hk : k = h
    · exact hk ▸ hl.quiet hq
    · rw [hrec k hk]; exact (hs.records k).quiet hq
  quotas p := by
    rw [hq.portRow]
    refine le_trans (State.counted_le fun k hk => ?_) (hs.quotas p)
    by_cases he : k = h
    · subst he; exact hcount p hk
    · rwa [hrec k he] at hk

theorem State.Sound.tableLaws {s : State} (hs : s.Sound) : s.TableLaws where
  waiting := hs.waiting
  grants := hs.grants
  drives :=
    { once := hs.once
      driven := fun h n hc => by
        obtain ⟨hon, hretry⟩ := hs.channels n
        obtain ⟨b, hb, rfl⟩ := Record.covers_booking hc
        have hunbarred : (s.channel b.output).state ≠ .barred := fun hst => by
          have := (hs.flags b.output).2 hst
          rw [hs.barring h b hb] at this; cases this
        have honly : ∀ k, (s.record k).covers b.output = true → k = h := fun k hk =>
          hs.once k h _ hk hc
        cases hd : (s.record h).driven with
        | on => exact hon.2 ⟨h, hc, Record.isOn_iff_driven.2 hd⟩
        | retry => exact hretry.2 ⟨h, hc, Record.isTripped_iff_driven.2 hd⟩
        | barred => cases hx : s.record h <;> simp [hx, Record.driven] at hd
        | off =>
          cases hst : (s.channel b.output).state with
          | off => rfl
          | barred => exact absurd hst hunbarred
          | on =>
            obtain ⟨k, hk, hko⟩ := hon.1 hst
            rw [honly k hk, Record.isOn_iff_driven, hd] at hko; cases hko
          | retry =>
            obtain ⟨k, hk, hko⟩ := hretry.1 hst
            rw [honly k hk, Record.isTripped_iff_driven, hd] at hko; cases hko
      undriven := fun n hn => by
        obtain ⟨hon, hretry⟩ := hs.channels n
        refine ⟨fun h => ?_, fun h => ?_⟩
        · obtain ⟨k, hk, -⟩ := hon.1 h; rw [hn k] at hk; cases hk
        · obtain ⟨k, hk, -⟩ := hretry.1 h; rw [hn k] at hk; cases hk }
  channels n := ⟨hs.shapes n, hs.flags n⟩
  records h := ⟨hs.fits h, hs.barring h, hs.rails h⟩
  quotas := hs.quotas

/-- The channels follow the records where the drive laws hold. -/
theorem State.DriveLaws.channelsFollowRecords {s : State} (hs : s.DriveLaws) :
    s.ChannelsFollowRecords := by
  have found : ∀ {n} {st : ChannelState}, (s.channel n).state = st → st = .on ∨ st = .retry →
      ∃ h, (s.record h).covers n = true := fun {n st} hst hor => by
    by_contra hno
    have hfree := hs.undriven n fun h => Bool.eq_false_iff.2 fun hc => hno ⟨h, hc⟩
    rcases hor with rfl | rfl
    · exact hfree.1 hst
    · exact hfree.2 hst
  refine fun n => ⟨⟨fun hst => ?_, ?_⟩, ⟨fun hst => ?_, ?_⟩⟩
  · obtain ⟨h, hc⟩ := found hst (.inl rfl)
    exact ⟨h, hc, Record.isOn_iff_driven.2 ((hs.driven h n hc).symm.trans hst)⟩
  · rintro ⟨h, hc, ho⟩
    rw [hs.driven h n hc, Record.isOn_iff_driven.1 ho]
  · obtain ⟨h, hc⟩ := found hst (.inr rfl)
    exact ⟨h, hc, Record.isTripped_iff_driven.2 ((hs.driven h n hc).symm.trans hst)⟩
  · rintro ⟨h, hc, ho⟩
    rw [hs.driven h n hc, Record.isTripped_iff_driven.1 ho]

/-! ## A record gives way, is freed or ends (R5, R6) -/

/-- A record that gives up what it holds leaves its rail's waiting list (R51). -/
theorem State.WaitingListsExact.withdraw_waiting {s : State} (hs : s.WaitingListsExact) (h : Handle)
    (r : Rail) : ((s.withdraw h).rail r).waiting = (s.rail r).waiting.erase h := by
  have hout : ∀ {r}, (s.record h).isWaiting = false ∨ (s.record h).onRail r = false →
      (s.rail r).waiting.erase h = (s.rail r).waiting := fun hno =>
    List.erase_of_not_mem fun hin => by
      obtain ⟨hw, hr⟩ := hs.mem_iff.1 hin
      rcases hno with hno | hno
      · rw [hno] at hw; cases hw
      · rw [hno] at hr; cases hr
  unfold State.withdraw
  split
  · next hb => rw [hout (.inr (by simp [Record.onRail, hb]))]
  · next b hb =>
    split
    · next hc =>
      rw [hout (.inl (Record.isWaiting_eq_false_of_isCommitting hc)), State.onChannel_rail,
        State.leaveGrants, State.onRail_rail]
      split
      · next he => rw [he]
      · rfl
    · split
      · rw [State.leaveList, State.onRail_rail]
        split
        · next he => rw [he]
        · next he => rw [hout (.inr (by simp [Record.onRail, hb, he]))]
      · next hw => rw [hout (.inl (by simpa using hw))]

/-- A record that has given up what it holds and is written as one that holds nothing keeps the
laws. -/
theorem State.TableLaws.gone {s t : State} (hs : s.TableLaws) (hq : s.Quiet t) {h : Handle}
    (hrec : ∀ k, k ≠ h → t.record k = s.record k)
    (hrail : ∀ r, t.rail r = (s.withdraw h).rail r)
    (hchan : ∀ n, t.channel n = (s.withdraw h).channel n)
    (hw : (t.record h).waits? = none) (hc : (t.record h).commits? = none)
    (hl : (t.record h).Lawful s)
    (hcount : ∀ p, (t.record h).countsAgainst = some p → (s.record h).countsAgainst = some p) :
    t.TableLaws := by
  have hnot := Record.covers_eq_false hw hc
  refine hs.written hq hrec ?_ ?_ ?_ (fun n => ?_) hl hcount
  · exact hs.waiting.leave (fun r => by rw [hrail, hs.waiting.withdraw_waiting]) hw
      fun k hk => by rw [hrec k hk]
  · exact hs.grants.leave (fun r => by rw [hrail, (hs.grants.withdraw_rail h r).1])
      (fun r => by rw [hrail, (hs.grants.withdraw_rail h r).2]) hc fun k hk => by rw [hrec k hk]
  · refine hs.drives.written hrec (fun n hn => ?_) (fun n hn => ?_) (fun n hn _ => ?_)
      fun n hn _ => ?_
    · rw [hnot] at hn; cases hn
    · rw [hnot] at hn; cases hn
    · rw [hchan, State.withdraw_channel]
      split
      · exact Channel.turnOff_state _
      · next hno =>
        have hcom : (s.record h).isCommitting = false := by simpa [hn] using hno
        rw [hs.drives.driven h n hn]
        cases hx : s.record h <;> simp_all [Record.driven, Record.isCommitting]
    · rw [hchan, State.withdraw_channel, if_neg (by simp [hn])]
  · rw [hchan, State.withdraw_channel]
    split
    · exact (hs.channels n).turnOff
    · exact hs.channels n

theorem State.TableLaws.freeRecord {s : State} (hs : s.TableLaws) (h : Handle) :
    (s.freeRecord h).TableLaws := by
  have hfree : (s.freeRecord h).record h = .free := by rw [State.freeRecord_record, if_pos rfl]
  refine hs.gone (s.freeRecord_quiet h) (h := h) (fun k hk => ?_) (s.freeRecord_rail h)
    (fun n => ?_) (by rw [hfree]; rfl) (by rw [hfree]; rfl) (by rw [hfree]; exact .free s)
    fun p hp => by rw [hfree] at hp; cases hp
  · rw [State.freeRecord_record, if_neg hk.symm]
  · rw [State.freeRecord_channel, State.withdraw_channel]

theorem Reason.noticeFits_ended {reason : Reason} (b : Booking) (c : Client)
    (h : 3 < reason.number) : (Record.ended b ⟨reason, c⟩).noticeFits = true := by
  simpa [Record.noticeFits] using h

theorem State.TableLaws.endRecord {s : State} (hs : s.TableLaws) (h : Handle) {reason : Reason}
    (hfinal : 3 < reason.number) : (s.endRecord h reason).TableLaws := by
  rcases s.endRecord_cases h reason with he | ⟨b, c, hb, hc, he⟩
  · rw [he]; exact hs.freeRecord h
  · have hended : (s.endRecord h reason).record h = .ended b ⟨reason, c⟩ := by
      rw [he, State.setRecord_record_same]
    refine hs.gone (s.endRecord_quiet h reason) (h := h)
      (fun k hk => s.endRecord_record_ne reason hk) (s.endRecord_rail h reason)
      (fun n => by rw [State.endRecord_channel, State.withdraw_channel]) (by rw [hended]; rfl)
      (by rw [hended]; rfl) ?_ fun p hp => ?_
    · rw [hended]
      refine (hs.records h).ofBooking (Reason.noticeFits_ended b c hfinal) (fun b' hb' => ?_)
        fun o ho => ?_
      · cases hb'; exact ⟨b, hb, rfl, rfl⟩
      · rw [Record.covers_eq_false rfl rfl] at ho; cases ho
    · rw [hended] at hp
      rw [Record.countsAgainst, hc]; exact hp

theorem State.TableLaws.countChange {s : State} (hs : s.TableLaws) : s.countChange.TableLaws :=
  ⟨hs.waiting, hs.grants, ⟨hs.drives.once, hs.drives.driven, hs.drives.undriven⟩, hs.channels,
    fun h => (hs.records h).quiet s.countChange_quiet, hs.quotas⟩

theorem State.TableLaws.revoke {s : State} (hs : s.TableLaws) (r : Rail) :
    (s.revoke r).TableLaws := State.revoke_keeps (fun k h => h.endRecord k (by decide)) r hs

end Sys2Proof.Machine
end

section
/-! PROOFS. The laws of the Lease Table when a record is taken, granted, resized, tripped or written
with what it was; and over a scan. -/

namespace Sys2Proof.Machine

/-! ## Records that keep their places -/

/-- `y` stands where `x` stood: on the same booking, list and order, with a notice that fits if the
other did, and counted against no other port. -/
structure Record.Keeps (x y : Record) : Prop where
  waits : y.waits? = x.waits?
  commits : y.commits? = x.commits?
  booking : y.booking? = x.booking?
  notice : x.noticeFits = true → y.noticeFits = true
  counts : ∀ p, y.countsAgainst = some p → x.countsAgainst = some p

theorem Record.Keeps.refl (x : Record) : x.Keeps x := ⟨rfl, rfl, rfl, id, fun _ => id⟩

theorem Record.isWaiting_eq {x : Record} : x.isWaiting = x.waits?.isSome := by
  cases x <;> rfl

theorem Record.isCommitting_eq {x : Record} : x.isCommitting = x.commits?.isSome := by
  cases x <;> rfl

theorem Record.Keeps.covers {x y : Record} (h : x.Keeps y) (n : Output) :
    y.covers n = x.covers n := by
  simp only [Record.covers, Record.isWaiting_eq, Record.isCommitting_eq, h.waits, h.commits,
    h.booking]

theorem Record.Keeps.lawful {s : State} {x y : Record} (h : x.Keeps y) (hx : x.Lawful s) :
    y.Lawful s :=
  hx.ofBooking (h.notice hx.notice) (fun b hb => ⟨b, h.booking ▸ hb, rfl, rfl⟩)
    fun n hn => h.covers n ▸ hn

theorem Record.renewed_keeps (x : Record) (term countdown retries : Nat) :
    x.Keeps (x.renewed term countdown retries) := by
  cases x <;> exact ⟨rfl, rfl, rfl, id, fun _ => id⟩

theorem Record.lowerCountdown_keeps (x : Record) : x.Keeps x.lowerCountdown := by
  cases x <;> exact ⟨rfl, rfl, rfl, id, fun _ => id⟩

theorem Record.restarted_keeps (x : Record) : x.Keeps x.restarted := by
  cases x <;> exact ⟨rfl, rfl, rfl, id, fun _ => id⟩

theorem Record.withoutNotice_keeps (x : Record) : x.Keeps x.withoutNotice := by
  cases x with
  | free | waiting | ended => exact .refl _
  | granted | tripped => exact ⟨rfl, rfl, rfl, fun _ => rfl, fun _ => id⟩
  | deviceTripped | held => exact ⟨rfl, rfl, rfl, fun _ => rfl, fun _ h => nomatch h⟩

/-- A lease that passes to DEVICE with its notice keeps its place (R70, R71). -/
theorem Record.held_keeps {b : Booking} {c : Client} {term d k : Nat} {n : Option Notice} :
    (Record.granted b c term d k n).Keeps (.held b k (some ⟨.lapsedHeld, c⟩)) :=
  ⟨rfl, rfl, rfl, fun _ => rfl, fun _ => id⟩

theorem Record.deviceTripped_keeps {b : Booking} {c : Client} {term d k : Nat} {n : Option Notice} :
    (Record.tripped b c term d k n).Keeps (.deviceTripped b k (some ⟨.lapsedHeld, c⟩)) :=
  ⟨rfl, rfl, rfl, fun _ => rfl, fun _ => id⟩

/-- A trip that takes a retry keeps the record's place (R90, R91). -/
theorem Record.tripped_keeps {b : Booking} {c : Client} {term d k k' : Nat} {n : Option Notice} :
    (Record.granted b c term d k n).Keeps (.tripped b c term d k' (some ⟨.tripped, c⟩)) :=
  ⟨rfl, rfl, rfl, fun _ => by simp [Record.noticeFits], fun _ => id⟩

theorem Record.heldTripped_keeps {b : Booking} {k k' : Nat} {n : Option Notice} :
    (Record.held b k n).Keeps (.deviceTripped b k' n) := ⟨rfl, rfl, rfl, id, fun _ => id⟩

/-! ## Writes that keep every place -/

/-- Accounts with the lists, orders and committed currents of others. -/
def State.SameLists (s t : State) : Prop :=
  ∀ r, (t.rail r).waiting = (s.rail r).waiting ∧ (t.rail r).grantOrder = (s.rail r).grantOrder
    ∧ (t.rail r).committed = (s.rail r).committed

theorem State.SameLists.ofRail {s t : State} (h : ∀ r, t.rail r = s.rail r) : s.SameLists t :=
  fun r => by rw [h]; exact ⟨rfl, rfl, rfl⟩

/-- Records that keep their places, and hold their channels as they did, keep the laws. -/
theorem State.TableLaws.congr {s t : State} (hs : s.TableLaws) (hq : s.Quiet t)
    (hrec : ∀ k, (s.record k).Keeps (t.record k))
    (hdriven : ∀ k, (t.record k).driven = (s.record k).driven) (hlists : s.SameLists t)
    (hstate : ∀ n, (t.channel n).state = (s.channel n).state)
    (hc : ∀ n, (t.channel n).Lawful) : t.TableLaws where
  waiting := hs.waiting.congr (fun r => (hlists r).1) fun k => (hrec k).waits
  grants := hs.grants.congr (fun r => (hlists r).2.1) (fun r => (hlists r).2.2)
    fun k => (hrec k).commits
  drives := hs.drives.congr (fun k => (hrec k).covers) hdriven hstate
  channels := hc
  records k := ((hrec k).lawful (hs.records k)).quiet hq
  quotas p := by
    rw [hq.portRow]
    exact le_trans (State.counted_le fun k => (hrec k).counts p) (hs.quotas p)

/-- One record that keeps its place and holds its channel as it did. -/
theorem State.TableLaws.rewrite {s t : State} (hs : s.TableLaws) (hq : s.Quiet t) {h : Handle}
    {y : Record} (hrec : ∀ k, t.record k = if h = k then y else s.record k)
    (hkeep : (s.record h).Keeps y) (hdriven : y.driven = (s.record h).driven)
    (hrail : ∀ r, t.rail r = s.rail r) (hchan : ∀ n, t.channel n = s.channel n) : t.TableLaws := by
  refine hs.congr hq (fun k => ?_) (fun k => ?_) (.ofRail hrail) (fun n => by rw [hchan])
    fun n => by rw [hchan]; exact hs.channels n
  · rw [hrec]
    split
    · next he => exact he ▸ hkeep
    · exact .refl _
  · rw [hrec]
    split
    · next he => rw [hdriven, he]
    · rfl

/-- No record but `h` covers what `h` covers. -/
theorem State.CoversOnce.uncovered {s : State} (hs : s.CoversOnce) {h k : Handle} {n : Output}
    (hn : (s.record h).covers n = true) (hk : k ≠ h) : (s.record k).covers n = false :=
  Bool.eq_false_iff.2 fun hc => hk (hs k h n hc hn)

/-- One record that keeps its place and whose channel goes to another state with it. -/
theorem State.TableLaws.redrive {s t : State} (hs : s.TableLaws) (hq : s.Quiet t) {h : Handle}
    {y : Record} (hrec : ∀ k, t.record k = if h = k then y else s.record k)
    (hkeep : (s.record h).Keeps y) (hrail : ∀ r, t.rail r = s.rail r) {o : Output}
    {g : Channel → Channel} (hcov : (s.record h).covers o = true)
    (hchan : ∀ n, t.channel n = if o = n then g (s.channel n) else s.channel n)
    (hstate : (g (s.channel o)).state = y.driven)
    (hlawful : (s.channel o).barred = false → (g (s.channel o)).Lawful) : t.TableLaws := by
  have hh : t.record h = y := by rw [hrec, if_pos rfl]
  have hne : ∀ k, k ≠ h → t.record k = s.record k := fun k hk => by rw [hrec, if_neg hk.symm]
  have hall : ∀ k, (s.record k).Keeps (t.record k) := fun k => by
    by_cases hk : k = h
    · subst hk; rw [hh]; exact hkeep
    · rw [hne k hk]; exact .refl _
  have hunbarred : (s.channel o).barred = false := by
    obtain ⟨b, hb, rfl⟩ := Record.covers_booking hcov
    exact (hs.records h).unbarred b hb
  refine hs.written hq hne ?_ ?_ ?_ (fun n => ?_) ((hall h).lawful (hs.records h)) (hall h).counts
  · exact hs.waiting.congr (fun r => by rw [hrail]) fun k => (hall k).waits
  · exact hs.grants.congr (fun r => by rw [hrail]) (fun r => by rw [hrail]) fun k => (hall k).commits
  · refine hs.drives.written hne (fun n hn k hk => ?_) (fun n hn => ?_) (fun n hn hn' => ?_)
      fun n hn _ => ?_
    · rw [(hall h).covers] at hn
      exact hs.drives.once.uncovered hn hk
    · rw [(hall h).covers] at hn
      obtain rfl := Record.covers_unique hcov hn
      rw [hchan, if_pos rfl, hstate, hh]
    · rw [(hall h).covers, hn] at hn'; cases hn'
    · rw [hchan, if_neg (by rintro rfl; rw [hcov] at hn; cases hn)]
  · rw [hchan]
    split
    · next he => subst he; exact hlawful hunbarred
    · exact hs.channels n

/-! ## Leases taken and granted -/

/-- The fields a grant and a wait write, as the laws read them. -/
theorem Record.Lawful.ofAsked {s : State} {y : Record} {b : Booking}
    (hb : (s.channel b.output).barred = false) (hr : b.rail = (s.outputRow b.output).rail)
    (hbook : y.booking? = some b) (hnotice : y.noticeFits = true) : y.Lawful s where
  notice := hnotice
  unbarred b' hb' := by rw [hbook] at hb'; cases hb'; exact hb
  rail o ho := by
    obtain ⟨-, b', hb', rfl⟩ := Record.covers_iff.1 ho
    rw [hbook] at hb'; cases hb'
    simp [Record.onRail, hbook, hr]

theorem countP_or_le {α : Type} (l : List α) (f g : α → Bool) :
    l.countP (fun a => f a || g a) ≤ l.countP f + l.countP g := by
  induction l with
  | nil => simp
  | cons a l ih =>
    simp only [List.countP_cons]
    cases f a <;> cases g a <;> simp <;> omega

/-- One more record counted against a port whose quota is not full keeps the quotas (R9, R13). -/
theorem State.WithinQuotas.take {s t : State} (hs : s.WithinQuotas) (hq : s.Quiet t) {h : Handle}
    {p : Port} (hrec : ∀ k, k ≠ h → (t.record k).countsAgainst = some p →
      (s.record k).countsAgainst = some p)
    (hother : ∀ q, q ≠ p → ∀ k, (t.record k).countsAgainst = some q →
      (s.record k).countsAgainst = some q)
    (hroom : s.counted p < (s.portRow p).quota) : t.WithinQuotas := by
  intro q
  rw [hq.portRow]
  by_cases hp : q = p
  · subst hp
    refine le_trans ?_ (Nat.succ_le_of_lt hroom)
    have hle : t.counted q ≤ (List.finRange 48).countP (fun k =>
        (s.record k).countsAgainst = some q ∨ k = h) :=
      List.countP_mono_left fun k _ hk => by
        by_cases he : k = h
        · simp [he]
        · simpa [he] using hrec k he (by simpa using hk)
    refine le_trans hle ?_
    rw [State.counted]
    have hone : (List.finRange 48).countP (fun k => decide (k = h)) = 1 := by
      rw [← List.count_eq_one_of_mem (List.nodup_finRange 48) (List.mem_finRange h), List.count]
      exact List.countP_congr fun k _ => by simp
    rw [Nat.succ_eq_add_one, ← hone]
    have hor : (fun k => decide ((s.record k).countsAgainst = some q ∨ k = h)) =
        fun k => (decide ((s.record k).countsAgainst = some q) || decide (k = h)) := by
      funext k; simp
    rw [hor]
    exact countP_or_le ..
  · exact le_trans (State.counted_le (hother q hp)) (hs q)

/-- A FREE record taken keeps the laws, where its list or order and its channel are taken
with it. -/
theorem State.TableLaws.take {s t : State} (hs : s.TableLaws) (hq : s.Quiet t) {p : Port}
    {f : Fields} {o : Output} {h : Handle} (hadm : s.Admits p f o h) (hcov : s.covering o = none)
    {y : Record} (hrec : ∀ k, t.record k = if h = k then y else s.record k)
    (hbook : y.booking? = some (s.asked f o)) (hcovers : ∀ n, y.covers n = true → n = o)
    (hnotice : y.noticeFits = true) (hcount : ∀ q, y.countsAgainst = some q → q = p)
    (hw : t.WaitingListsExact) (hg : t.GrantOrdersExact)
    (hon : (t.channel o).state = y.driven) (hlawful : (t.channel o).Lawful)
    (hchan : ∀ n, n ≠ o → t.channel n = s.channel n) (hy : y.covers o = true) : t.TableLaws where
  waiting := hw
  grants := hg
  drives := by
    have hfree : s.record h = .free := Record.isFree_iff.1 (State.lowestFree_eq_some.1 hadm.free).1
    have hh : t.record h = y := by rw [hrec, if_pos rfl]
    refine hs.drives.written (h := h) (fun k hk => by rw [hrec, if_neg hk.symm])
      (fun n hn k _ => ?_) (fun n hn => ?_) (fun n hn _ => ?_) fun n _ hn => ?_
    · rw [hh] at hn
      rw [hcovers n hn]
      exact State.covering_eq_none.1 hcov k
    · rw [hh] at hn ⊢
      rw [hcovers n hn]
      exact hon
    · rw [hfree] at hn; cases hn
    · rw [hh] at hn
      rw [hchan n (by rintro rfl; rw [hy] at hn; cases hn)]
  channels n := by
    by_cases hn : n = o
    · exact hn ▸ hlawful
    · rw [hchan n hn]; exact hs.channels n
  records k := by
    rw [hrec]
    split
    · exact (Record.Lawful.ofAsked hadm.unbarred rfl hbook hnotice).quiet hq
    · exact (hs.records k).quiet hq
  quotas := by
    refine hs.quotas.take hq (h := h) (fun k hk => ?_) (fun q hp k hk => ?_) hadm.quota
    · rw [hrec, if_neg hk.symm]; exact id
    · rw [hrec] at hk
      split at hk
      · exact absurd (hcount q hk) hp
      · exact hk

theorem State.TableLaws.ofFree {s : State} {h : Handle} (hfree : s.lowestFree = some h) :
    (s.record h).waits? = none ∧ (s.record h).commits? = none := by
  rw [Record.isFree_iff.1 (State.lowestFree_eq_some.1 hfree).1]
  exact ⟨rfl, rfl⟩

/-- REQUEST granted at once (R14). -/
theorem State.TableLaws.grant {s : State} (hs : s.TableLaws) {p : Port} {f : Fields} {o : Output}
    {h : Handle} (hadm : s.Admits p f o h) (hcov : s.covering o = none) :
    (((s.setRecord h (s.grantedRecord p f (s.asked f o))).joinGrants h (s.asked f o)).onChannel o
      Channel.turnOn).TableLaws := by
  obtain ⟨hnw, hnc⟩ := State.TableLaws.ofFree hadm.free
  have hrec : ∀ k, (((s.setRecord h (s.grantedRecord p f (s.asked f o))).joinGrants h
      (s.asked f o)).onChannel o Channel.turnOn).record k =
      if h = k then s.grantedRecord p f (s.asked f o) else s.record k := fun k => by
    rw [State.onChannel_record, State.joinGrants_record, State.setRecord_record]
  refine hs.take (((s.setRecord_quiet _ _).trans (State.joinGrants_quiet _ _ _)).trans
    (State.onChannel_quiet _ _ Channel.turnOn_barred)) hadm hcov hrec rfl (fun n hn => ?_) rfl
    (fun q hq => ?_) ?_ ?_ ?_ ?_ (fun n hn => ?_) ?_
  · simpa [State.grantedRecord, Record.covers, Record.isWaiting, Record.isCommitting,
      Record.booking?, State.asked, eq_comm] using hn
  · simpa [State.grantedRecord, Record.countsAgainst, Record.owedParty?, Record.holder?, clientOf,
      eq_comm] using hq
  · refine hs.waiting.congr (fun r => ?_) fun k => ?_
    · rw [State.onChannel_rail, State.joinGrants, State.onRail_rail]
      split
      · next he => rw [he]; rfl
      · rfl
    · rw [hrec]
      split
      · next he => rw [← he, hnw]; rfl
      · rfl
  · refine hs.grants.join (h := h) (r₀ := (s.asked f o).rail) (d := (s.asked f o).current) hnc ?_
      ?_ ?_ (fun r hr => ?_) fun k hk => by rw [hrec, if_neg hk.symm]
    · rw [hrec, if_pos rfl]; rfl
    · rw [State.onChannel_rail, State.joinGrants, State.onRail_rail_same]; rfl
    · rw [State.onChannel_rail, State.joinGrants, State.onRail_rail_same]; rfl
    · rw [State.onChannel_rail, State.joinGrants, State.onRail_rail_ne _ _ hr]; exact ⟨rfl, rfl⟩
  · rw [State.onChannel_channel_same]; rfl
  · rw [State.onChannel_channel_same]; exact Channel.Lawful.turnOn hadm.unbarred
  · rw [State.onChannel_channel_ne _ _ hn]; rfl
  · simp [State.grantedRecord, Record.covers, Record.isWaiting, Record.isCommitting,
      Record.booking?, State.asked]

/-- REQUEST that waits (R15). -/
theorem State.TableLaws.wait {s : State} (hs : s.TableLaws) {p : Port} {f : Fields} {o : Output}
    {h : Handle} (hadm : s.Admits p f o h) (hcov : s.covering o = none) (patience : Nat) :
    ((s.enterList h (s.asked f o)).setRecord h
      (.waiting (s.asked f o) (clientOf p f) f.valueB.toNat patience)).TableLaws := by
  obtain ⟨hnw, hnc⟩ := State.TableLaws.ofFree hadm.free
  have hoff : (s.channel o).state = .off := by
    obtain ⟨hon, hretry⟩ := hs.drives.undriven o (State.covering_eq_none.1 hcov)
    have hbar : (s.channel o).state ≠ .barred := fun hb => by
      have := (hs.channels o).2.2 hb; rw [hadm.unbarred] at this; cases this
    cases hst : (s.channel o).state <;> simp_all
  have hrec : ∀ k, ((s.enterList h (s.asked f o)).setRecord h
      (.waiting (s.asked f o) (clientOf p f) f.valueB.toNat patience)).record k =
      if h = k then .waiting (s.asked f o) (clientOf p f) f.valueB.toNat patience
      else s.record k := fun k => by
    rw [State.setRecord_record, State.enterList_record]
  refine hs.take ((s.onRail_quiet _ _).trans (State.setRecord_quiet _ _ _)) hadm hcov hrec rfl
    (fun n hn => ?_) rfl (fun q hq => ?_) ?_ ?_ hoff (hs.channels o) (fun n hn => rfl) ?_
  · exact ((Record.covers_waiting ..).1 hn).symm
  · simpa [Record.countsAgainst, Record.owedParty?, Record.holder?, clientOf, eq_comm] using hq
  · refine hs.waiting.enter (h := h) (r₀ := (s.asked f o).rail) (c := (s.asked f o).cls) hnw ?_ ?_
      (fun r hr => ?_) fun k hk => by rw [hrec, if_neg hk.symm]
    · rw [hrec, if_pos rfl]; rfl
    · rw [State.setRecord_rail, State.enterList, State.onRail_rail_same]
    · rw [State.setRecord_rail, State.enterList, State.onRail_rail_ne _ _ hr]
  · refine hs.grants.congr (fun r => ?_) (fun r => ?_) fun k => ?_
    · rw [State.setRecord_rail, State.enterList, State.onRail_rail]
      split
      · next he => rw [he]
      · rfl
    · rw [State.setRecord_rail, State.enterList, State.onRail_rail]
      split
      · next he => rw [he]
      · rfl
    · rw [hrec]
      split
      · next he => rw [← he, hnc]; rfl
      · rfl
  · exact (Record.covers_waiting ..).2 rfl

/-- A waiter granted from the list (R56). -/
theorem State.TableLaws.grantWaiter {s : State} (hs : s.TableLaws) {h : Handle} {b : Booking}
    {c : Client} {term patience : Nat} (hx : s.record h = .waiting b c term patience) :
    (s.grantWaiter h b c term).TableLaws := by
  have hh : (s.grantWaiter h b c term).record h =
      .granted b c term term (s.outputRow b.output).retryAllowance (some ⟨.granted, c⟩) := by
    rw [State.grantWaiter_record, if_pos rfl]
  have hrec : ∀ k, k ≠ h → (s.grantWaiter h b c term).record k = s.record k := fun k hk => by
    rw [State.grantWaiter_record, if_neg hk.symm]
  have hcovers : ∀ n, ((s.grantWaiter h b c term).record h).covers n = (s.record h).covers n :=
    fun n => State.grantWaiter_record_apply (fun x => x.covers n) hx (fun _ _ => rfl) h
  have hb : (s.record h).booking? = some b := by rw [hx]; rfl
  have hbar := (hs.records h).unbarred b hb
  have hcov : ∀ n, (s.record h).covers n = true ↔ b.output = n := fun n => by
    rw [hx]; exact Record.covers_waiting ..
  have hwaits : (s.record h).waits? = some (b.rail, b.cls) := by rw [hx]; rfl
  have hq : s.Quiet (s.grantWaiter h b c term) :=
    (s.grantWaiter_tableOnly h b c term).quiet (s.grantWaiter_sameBarred h b c term)
  refine hs.written hq hrec ?_ ?_ ?_ (fun n => ?_) ?_ fun p hp => ?_
  · refine hs.waiting.leave (h := h) (fun r => ?_) (by rw [hh]; rfl) fun k hk => by rw [hrec k hk]
    by_cases hr : r = b.rail
    · rw [hr, State.grantWaiter_rail]
    · rw [State.grantWaiter_rail_ne _ _ _ _ hr, List.erase_of_not_mem]
      rintro hin
      obtain ⟨d, hd⟩ := hs.waiting.mem_waits.1 hin
      rw [hwaits] at hd; cases hd; exact hr rfl
  · refine hs.grants.join (h := h) (r₀ := b.rail) (d := b.current) (by rw [hx]; rfl)
      (by rw [hh]; rfl) ?_ ?_ (fun r hr => ?_) fun k hk => by rw [hrec k hk]
    · rw [State.grantWaiter_rail]
    · rw [State.grantWaiter_rail]
    · rw [State.grantWaiter_rail_ne _ _ _ _ hr]; exact ⟨rfl, rfl⟩
  · refine hs.drives.written hrec (fun n hn k hk => ?_) (fun n hn => ?_) (fun n hn hn' => ?_)
      fun n hn _ => ?_
    · rw [hcovers] at hn; exact hs.drives.once.uncovered hn hk
    · rw [hcovers, hcov] at hn
      rw [State.grantWaiter_channel, if_pos hn, hh]; rfl
    · rw [hcovers, hn] at hn'; cases hn'
    · rw [State.grantWaiter_channel, if_neg fun he => by rw [(hcov n).2 he] at hn; cases hn]
  · rw [State.grantWaiter_channel]
    split
    · next he => exact Channel.Lawful.turnOn (he ▸ hbar)
    · exact hs.channels n
  · refine (hs.records h).ofBooking (by rw [hh]; simp [Record.noticeFits]) (fun b' hb' => ?_)
      fun n hn => hcovers n ▸ hn
    rw [hh] at hb'; cases hb'
    exact ⟨b, hb, rfl, rfl⟩
  · rw [hh] at hp; rw [hx]; exact hp

/-- What each grant of a waiter of the rail keeps, a scan keeps (R52). -/
theorem State.WaitingListsExact.scan_keeps {P : State → Prop} {s : State}
    (hexact : s.WaitingListsExact) {r : Rail}
    (hgrant : ∀ {s : State} {h : Handle} {b : Booking} {c : Client} {term patience : Nat}, P s →
      s.record h = .waiting b c term patience → b.rail = r → b.current ≤ (s.rail r).room b.cls →
      P (s.grantWaiter h b c term)) (hs : P s) : P (s.scan r) := by
  have along : ∀ {s t : State} {l : List Handle}, s.GrantsAlong r l t → P s → P t := by
    intro s t l hg
    induction hg with
    | nil => exact id
    | cons hx hr hfit _ ih => exact fun hp => ih (hgrant hp hx hr hfit)
  by_cases hm : s.mode = .service
  · obtain ⟨_, _, -, hg, -⟩ := hexact.scan_grantsAlong hm r
    exact along hg hs
  · rw [State.scan, if_neg hm]; exact hs

theorem State.TableLaws.scan {s : State} (hs : s.TableLaws) (r : Rail) : (s.scan r).TableLaws :=
  State.scan_keeps (fun h hx _ => h.grantWaiter hx) hs

end Sys2Proof.Machine
end

section
/-! PROOFS. The laws of the Lease Table over a change of current, a claim and RESTART. -/

namespace Sys2Proof.Machine

/-! ## A change of current (R40 to R43) -/

theorem Record.withCurrent_waits (x : Record) (v : Nat) : (x.withCurrent v).waits? = x.waits? := by
  cases x <;> rfl

theorem Record.withCurrent_driven (x : Record) (v : Nat) : (x.withCurrent v).driven = x.driven := by
  cases x <;> rfl

theorem Record.withCurrent_commits (x : Record) (v : Nat) :
    (x.withCurrent v).commits? = x.commits?.map (fun e => (e.1, v)) := by cases x <;> rfl

theorem Record.withCurrent_booking (x : Record) (v : Nat) :
    (x.withCurrent v).booking? = x.booking?.map (fun b => b.withCurrent v) := by cases x <;> rfl

theorem Record.withCurrent_noticeFits (x : Record) (v : Nat) :
    (x.withCurrent v).noticeFits = x.noticeFits := by cases x <;> rfl

theorem Record.withCurrent_counts (x : Record) (v : Nat) :
    (x.withCurrent v).countsAgainst = x.countsAgainst := by cases x <;> rfl

theorem Record.withCurrent_covers (x : Record) (v : Nat) (n : Output) :
    (x.withCurrent v).covers n = x.covers n := by cases x <;> rfl

/-- A record written with another current keeps the laws, where its rail's committed follows. -/
theorem State.TableLaws.resize {s t : State} (hs : s.TableLaws) (hq : s.Quiet t) {h : Handle}
    {v : Nat} (hrec : ∀ k, t.record k = if h = k then (s.record h).withCurrent v else s.record k)
    (hwait : ∀ r, (t.rail r).waiting = (s.rail r).waiting) (hg : t.GrantOrdersExact)
    (hchan : ∀ n, t.channel n = s.channel n) : t.TableLaws := by
  have same : ∀ {α : Type} (f : Record → α) (k : Handle),
      f ((s.record h).withCurrent v) = f (s.record h) → f (t.record k) = f (s.record k) :=
    fun f k hf => by
      rw [hrec]
      split
      · next he => rw [hf, he]
      · rfl
  have hh : t.record h = (s.record h).withCurrent v := by rw [hrec, if_pos rfl]
  refine hs.written hq (h := h) (fun k hk => by rw [hrec, if_neg hk.symm]) ?_ hg ?_ (fun n => ?_) ?_
    fun p hp => ?_
  · exact hs.waiting.congr hwait fun k => same Record.waits? k (Record.withCurrent_waits ..)
  · exact hs.drives.congr
      (fun k n => same (fun x => x.covers n) k (Record.withCurrent_covers ..))
      (fun k => same Record.driven k (Record.withCurrent_driven ..)) fun n => by rw [hchan]
  · rw [hchan]; exact hs.channels n
  · rw [hh]
    refine (hs.records h).ofBooking ?_ (fun b' hb' => ?_) fun n hn => ?_
    · rw [Record.withCurrent_noticeFits]; exact (hs.records h).notice
    · rw [Record.withCurrent_booking] at hb'
      obtain ⟨b, hb, rfl⟩ := Option.map_eq_some_iff.1 hb'
      exact ⟨b, hb, rfl, rfl⟩
    · rwa [Record.withCurrent_covers] at hn
  · rwa [hh, Record.withCurrent_counts] at hp

theorem Record.commits?_of_booking {x : Record} {b : Booking} (hb : x.booking? = some b)
    (hc : x.isCommitting = true) : x.commits? = some (b.rail, b.current) := by
  cases x <;> simp_all [Record.booking?, Record.isCommitting, Record.commits?]

theorem Record.waits?_of_booking {x : Record} {b : Booking} (hb : x.booking? = some b)
    (hw : x.isWaiting = true) : x.waits? = some (b.rail, b.cls) := by
  cases x <;> simp_all [Record.booking?, Record.isWaiting, Record.waits?]

/-- A waiter's current written anew (R43). -/
theorem State.TableLaws.resizeWaiter {s : State} (hs : s.TableLaws) {h : Handle}
    (hw : (s.record h).isWaiting = true) (v : Nat) :
    (s.setRecord h ((s.record h).withCurrent v)).TableLaws := by
  refine hs.resize (s.setRecord_quiet _ _) (fun _ => State.setRecord_record ..)
    (fun _ => rfl) ?_ fun _ => rfl
  refine hs.grants.congr (fun _ => rfl) (fun _ => rfl) fun k => ?_
  rw [State.setRecord_record]
  split
  · next he =>
    rw [Record.withCurrent_commits, ← he,
      Record.commits?_eq_none_iff.2 (Record.isCommitting_eq_false_of_isWaiting hw)]
    rfl
  · rfl

/-- A lease's current written anew, and its rail's committed with it (R41, R42). -/
theorem State.TableLaws.resizeLease {s : State} (hs : s.TableLaws) {h : Handle} {b : Booking}
    (hb : (s.record h).booking? = some b) (hc : (s.record h).isCommitting = true) {v committed : Nat}
    (hsum : committed + b.current = (s.rail b.rail).committed + v) {g : Account → Account}
    (hg : g (s.rail b.rail) = { s.rail b.rail with committed := committed }) :
    ((s.setRecord h ((s.record h).withCurrent v)).onRail b.rail g).TableLaws := by
  have hrec : ∀ k, ((s.setRecord h ((s.record h).withCurrent v)).onRail b.rail g).record k =
      if h = k then (s.record h).withCurrent v else s.record k := fun k => by
    rw [State.onRail_record, State.setRecord_record]
  have hrail : ∀ r, ((s.setRecord h ((s.record h).withCurrent v)).onRail b.rail g).rail r =
      if b.rail = r then { s.rail b.rail with committed := committed } else s.rail r := fun r => by
    rw [State.onRail_rail, State.setRecord_rail, State.setRecord_rail, hg]
  have hcommits := Record.commits?_of_booking hb hc
  refine hs.resize ((s.setRecord_quiet _ _).trans (State.onRail_quiet _ _ _)) hrec (fun r => ?_) ?_
    fun _ => rfl
  · rw [hrail]
    split
    · next he => rw [he]
    · rfl
  · refine hs.grants.resize hcommits (h := h) (d' := v) ?_ (fun r => ?_) ?_ (fun r hr => ?_)
      fun k hk => ?_
    · rw [hrec, if_pos rfl, Record.withCurrent_commits, hcommits]; rfl
    · rw [hrail]
      split
      · next he => rw [he]
      · rfl
    · rw [hrail, if_pos rfl]; exact hsum
    · rw [hrail, if_neg hr.symm]
    · rw [hrec, if_neg hk.symm]

/-! ## A claim (R78, R79) -/

/-- The record a claim writes, by the state of the one it takes over (R79). -/
def State.claimed (s : State) (p : Port) (f : Fields) (o : Output) (old : Handle) : Record :=
  if (s.record old).isTripped then s.claimedTripped p f (s.asked f o)
  else s.grantedRecord p f (s.asked f o)

theorem State.claimed_cases (s : State) (p : Port) (f : Fields) (o : Output) (old : Handle) :
    (s.claimed p f o old).booking? = some (s.asked f o)
      ∧ (s.claimed p f o old).commits? = some ((s.asked f o).rail, (s.asked f o).current)
      ∧ (s.claimed p f o old).waits? = none ∧ (s.claimed p f o old).noticeFits = true
      ∧ (s.claimed p f o old).countsAgainst = some p := by
  unfold State.claimed
  split <;> exact ⟨rfl, rfl, rfl, rfl, rfl⟩

/-- The old record of a claim, given way, is written as one that holds nothing and is counted
against no other port (R78). -/
theorem State.giveWay_record_same {s : State} {old : Handle} (held : Booking)
    (hdevice : (s.record old).isDeviceHeld = true) :
    ((s.giveWay old held).record old = .free ∨
      ∃ n, (s.record old).notice? = some n
        ∧ (s.giveWay old held).record old = .ended held ⟨.takenOver, n.owedTo⟩)
      ∧ ∀ q, ((s.giveWay old held).record old).countsAgainst = some q →
        (s.record old).countsAgainst = some q := by
  cases hn : (s.record old).notice? with
  | none =>
    have hfree : (s.giveWay old held).record old = .free := by
      rw [State.giveWay_of_no_notice held hn, State.setRecord_record_same]
    exact ⟨.inl hfree, fun q hq => by rw [hfree] at hq; cases hq⟩
  | some n =>
    have hended : (s.giveWay old held).record old = .ended held ⟨.takenOver, n.owedTo⟩ := by
      rw [State.giveWay_of_notice held hn, State.setRecord_record_same]
    refine ⟨.inr ⟨n, rfl, hended⟩, fun q hq => ?_⟩
    rw [hended] at hq
    cases hx : s.record old <;>
      simp_all [Record.isDeviceHeld, Record.holder?, Record.countsAgainst, Record.owedParty?,
        Record.notice?]

theorem Record.isCommitting_of_isDeviceHeld {x : Record} (h : x.isDeviceHeld = true) :
    x.isCommitting = true := by
  cases x <;> simp_all [Record.isDeviceHeld, Record.holder?, Record.isCommitting]

theorem State.giveWay_rail {s : State} {old : Handle} {held : Booking}
    (hb : (s.record old).booking? = some held) (hc : (s.record old).isCommitting = true)
    (r : Rail) :
    (s.giveWay old held).rail r = (s.withdraw old).rail r := by
  have hleave : (s.giveWay old held).rail r = (s.leaveGrants old held).rail r := by
    unfold State.giveWay
    split <;> simp
  rw [hleave, State.withdraw, hb]
  simp [hc]

@[simp] theorem State.giveWay_channel (s : State) (old : Handle) (held : Booking) (n : Output) :
    (s.giveWay old held).channel n = s.channel n := by
  unfold State.giveWay
  split <;> simp

/-- The record a claim takes is FREE, or is the old one, freed. -/
theorem State.giveWay_lowestFree {s : State} {old h : Handle} {held : Booking}
    (hfree : (s.giveWay old held).lowestFree = some h) : h = old ∨ s.record h = .free := by
  by_cases hh : h = old
  · exact .inl hh
  · right
    rw [← State.giveWay_record_ne s held hh]
    exact Record.isFree_iff.1 (State.lowestFree_eq_some.1 hfree).1

/-- A claim before its scan: the old record has given way, and `h` has the lease (R78). -/
def State.handedOver (s : State) (p : Port) (f : Fields) (o : Output) (old h : Handle)
    (held : Booking) : State :=
  ((s.giveWay old held).setRecord h (s.claimed p f o old)).joinGrants h (s.asked f o)

theorem State.claimed_covers (s : State) (p : Port) (f : Fields) (o : Output) (old : Handle)
    (n : Output) : (s.claimed p f o old).covers n = true ↔ n = o := by
  obtain ⟨hbook, hcom, -⟩ := s.claimed_cases p f o old
  simp [Record.covers, Record.isCommitting_eq, hcom, hbook, State.asked, eq_comm]

/-- The lease of a claim holds its channel as the old one did (R79). -/
theorem State.claimed_driven {s : State} {old : Handle}
    (hdevice : (s.record old).isDeviceHeld = true) (p : Port) (f : Fields) (o : Output) :
    (s.claimed p f o old).driven = (s.record old).driven := by
  unfold State.claimed
  cases hx : s.record old <;>
    simp_all [Record.isDeviceHeld, Record.holder?, Record.isTripped, Record.driven,
      State.claimedTripped, State.grantedRecord]

section
variable {s : State} {p : Port} {f : Fields} {o : Output} {old h0 h : Handle} {held : Booking}

theorem State.handedOver_record (k : Handle) :
    (s.handedOver p f o old h held).record k =
      if h = k then s.claimed p f o old else (s.giveWay old held).record k := by
  rw [State.handedOver, State.joinGrants_record, State.setRecord_record]

theorem State.handedOver_channel (n : Output) :
    (s.handedOver p f o old h held).channel n = s.channel n := by
  rw [State.handedOver, State.joinGrants_channel, State.setRecord_channel, State.giveWay_channel]

theorem State.handedOver_quiet : s.Quiet (s.handedOver p f o old h held) :=
  ((s.giveWay_quiet _ _).trans (State.setRecord_quiet _ _ _)).trans (State.joinGrants_quiet _ _ _)

section
variable (hdevice : (s.record old).isDeviceHeld = true)
include hdevice

/-- The old record, given way, neither waits nor commits. -/
theorem State.giveWay_idle : ((s.giveWay old held).record old).waits? = none
    ∧ ((s.giveWay old held).record old).commits? = none := by
  rcases (State.giveWay_record_same held hdevice).1 with hg | ⟨n, -, hg⟩
  · rw [hg]; exact ⟨rfl, rfl⟩
  · rw [hg]; exact ⟨rfl, rfl⟩

theorem State.old_waits : (s.record old).waits? = none :=
  Record.waits?_eq_none_iff.2 (Record.isWaiting_eq_false_of_isCommitting
    (Record.isCommitting_of_isDeviceHeld hdevice))

theorem State.giveWay_waits (k : Handle) :
    ((s.giveWay old held).record k).waits? = (s.record k).waits? := by
  by_cases hk : k = old
  · rw [hk, (State.giveWay_idle hdevice).1, State.old_waits hdevice]
  · rw [State.giveWay_record_ne s held hk]

/-- A record that covers an output once the old one has given way covered it before. -/
theorem State.giveWay_covers {k : Handle} {n : Output}
    (hc : ((s.giveWay old held).record k).covers n = true) :
    k ≠ old ∧ (s.record k).covers n = true := by
  have hk : k ≠ old := by
    rintro rfl
    obtain ⟨hwaits, hcommits⟩ := State.giveWay_idle (held := held) hdevice
    rw [Record.covers_eq_false hwaits hcommits] at hc; cases hc
  exact ⟨hk, State.giveWay_record_ne s held hk ▸ hc⟩

theorem State.giveWay_counts {k : Handle} {q : Port}
    (hq : ((s.giveWay old held).record k).countsAgainst = some q) :
    (s.record k).countsAgainst = some q := by
  by_cases hk : k = old
  · rw [hk] at hq ⊢; exact (State.giveWay_record_same held hdevice).2 q hq
  · rwa [State.giveWay_record_ne s held hk] at hq

theorem State.TableLaws.giveWay_lawful (hs : s.TableLaws) (hheld : (s.record old).booking? = some held)
    (k : Handle) : ((s.giveWay old held).record k).Lawful s := by
  by_cases hko : k = old
  · rw [hko]
    rcases (State.giveWay_record_same held hdevice).1 with hg | ⟨n, -, hg⟩
    · rw [hg]; exact .free s
    · rw [hg]
      refine (hs.records old).ofBooking rfl (fun b' hb' => ?_) fun o' ho' => ?_
      · cases hb'; exact ⟨held, hheld, rfl, rfl⟩
      · rw [Record.covers_eq_false rfl rfl] at ho'; cases ho'
  · rw [State.giveWay_record_ne s held hko]; exact hs.records k

theorem State.WaitingListsExact.handedOver (hs : s.WaitingListsExact)
    (hheld : (s.record old).booking? = some held)
    (hhFree : (s.giveWay old held).record h = .free) :
    (s.handedOver p f o old h held).WaitingListsExact := by
  have hwaiting : ∀ r, ((s.giveWay old held).rail r).waiting = (s.rail r).waiting := fun r => by
    rw [State.giveWay_rail hheld (Record.isCommitting_of_isDeviceHeld hdevice),
      hs.withdraw_waiting, List.erase_of_not_mem]
    intro hin
    obtain ⟨c, hc⟩ := hs.mem_waits.1 hin
    rw [State.old_waits hdevice] at hc; cases hc
  refine hs.congr (fun r => ?_) fun k => ?_
  · rw [State.handedOver, State.joinGrants, State.onRail_rail]
    split
    · next he => subst he; exact hwaiting _
    · exact hwaiting r
  · obtain ⟨-, -, hwaits, -⟩ := s.claimed_cases p f o old
    rw [State.handedOver_record]
    split
    · next he => rw [hwaits, ← he, ← State.giveWay_waits (held := held) hdevice, hhFree]; rfl
    · exact State.giveWay_waits hdevice k

theorem State.GrantOrdersExact.handedOver (hs : s.GrantOrdersExact)
    (hheld : (s.record old).booking? = some held)
    (hhFree : (s.giveWay old held).record h = .free) :
    (s.handedOver p f o old h held).GrantOrdersExact := by
  have hcommits := Record.isCommitting_of_isDeviceHeld hdevice
  have hgone : (s.giveWay old held).GrantOrdersExact := hs.leave (h := old)
    (fun r => by rw [State.giveWay_rail hheld hcommits, (hs.withdraw_rail old r).1])
    (fun r => by rw [State.giveWay_rail hheld hcommits, (hs.withdraw_rail old r).2])
    (State.giveWay_idle hdevice).2 fun k hk => by rw [State.giveWay_record_ne s held hk]
  obtain ⟨-, hcom, -⟩ := s.claimed_cases p f o old
  refine hgone.join (h := h) (r₀ := (s.asked f o).rail) (d := (s.asked f o).current)
    (by rw [hhFree]; rfl) (by rw [State.handedOver_record, if_pos rfl]; exact hcom) ?_ ?_
    (fun r hr => ?_) fun k hk => by rw [State.handedOver_record, if_neg hk.symm]
  · rw [State.handedOver, State.joinGrants, State.onRail_rail_same]; rfl
  · rw [State.handedOver, State.joinGrants, State.onRail_rail_same]; rfl
  · rw [State.handedOver, State.joinGrants, State.onRail_rail_ne _ _ hr]; exact ⟨rfl, rfl⟩

/-- The new lease covers what the old one did, and every other record what it did before. -/
theorem State.DriveLaws.handedOver (hs : s.DriveLaws) (hcov : s.covering o = some old)
    (hfree : (s.giveWay old held).lowestFree = some h) :
    (s.handedOver p f o old h held).DriveLaws := by
  have hOld := State.covering_covers hcov
  have hnew : ∀ {k n}, ((s.giveWay old held).record k).covers n = true → n ≠ o := by
    rintro k n hk rfl
    obtain ⟨hko, hkc⟩ := State.giveWay_covers hdevice hk
    exact hko (hs.once _ _ _ hkc hOld)
  refine ⟨fun k k' n hk hk' => ?_, fun k n hk => ?_, fun n hn => ?_⟩
  · rw [State.handedOver_record] at hk hk'
    split at hk
    · next he =>
      split at hk'
      · next he' => rw [← he, ← he']
      · exact absurd ((s.claimed_covers p f o old n).1 hk) (hnew hk')
    · split at hk'
      · exact absurd ((s.claimed_covers p f o old n).1 hk') (hnew hk)
      · exact hs.once _ _ _ (State.giveWay_covers hdevice hk).2 (State.giveWay_covers hdevice hk').2
  · rw [State.handedOver_channel]
    rw [State.handedOver_record] at hk ⊢
    split at hk
    · next he =>
      rw [if_pos he, (s.claimed_covers p f o old n).1 hk, hs.driven old o hOld,
        State.claimed_driven hdevice]
    · next he =>
      obtain ⟨hko, hkc⟩ := State.giveWay_covers hdevice hk
      rw [if_neg he, State.giveWay_record_ne s held hko]
      exact hs.driven k n hkc
  · have hno : n ≠ o := fun he => by
      have := hn h
      rw [State.handedOver_record, if_pos rfl, (s.claimed_covers p f o old n).2 he] at this
      cases this
    rw [State.handedOver_channel]
    refine hs.undriven n fun k => ?_
    by_cases hko : k = old
    · exact Bool.eq_false_iff.2 fun hc => hno (Record.covers_unique hc (hko ▸ hOld))
    · by_cases hkh : k = h
      · rcases State.giveWay_lowestFree hfree with ho | ho
        · exact absurd (hkh.trans ho) hko
        · rw [hkh, ho]; rfl
      · have := hn k
        rwa [State.handedOver_record, if_neg (Ne.symm hkh), State.giveWay_record_ne s held hko]
          at this

end

theorem State.TableLaws.claim (hs : s.TableLaws) (hadm : s.Admits p f o h0)
    (hcov : s.covering o = some old) (hdevice : (s.record old).isDeviceHeld = true)
    (hheld : (s.record old).booking? = some held)
    (hfree : (s.giveWay old held).lowestFree = some h) :
    (s.handedOver p f o old h held).TableLaws := by
  obtain ⟨hbook, -, -, hnotice, hcount⟩ := s.claimed_cases p f o old
  have hhFree : (s.giveWay old held).record h = .free :=
    Record.isFree_iff.1 (State.lowestFree_eq_some.1 hfree).1
  refine
    { waiting := hs.waiting.handedOver hdevice hheld hhFree
      grants := hs.grants.handedOver hdevice hheld hhFree
      drives := hs.drives.handedOver hdevice hcov hfree
      channels := fun n => by rw [State.handedOver_channel]; exact hs.channels n
      records := fun k => .quiet ?_ State.handedOver_quiet
      quotas := hs.quotas.take State.handedOver_quiet (h := h) (fun k hk => ?_)
        (fun q hp k hk => ?_) hadm.quota }
  · rw [State.handedOver_record]
    split
    · exact .ofAsked hadm.unbarred rfl hbook hnotice
    · exact State.TableLaws.giveWay_lawful hdevice hs hheld k
  · rw [State.handedOver_record, if_neg hk.symm]
    exact State.giveWay_counts hdevice
  · rw [State.handedOver_record] at hk
    split at hk
    · rw [hcount] at hk; cases hk; exact absurd rfl hp
    · exact State.giveWay_counts hdevice hk

end

/-! ## RESTART (R150) -/

theorem Profile.keptRecord_waits (shadow : Profile) (x : Record) :
    (shadow.keptRecord x).waits? = none := by
  cases x with
  | granted | tripped => simp only [Profile.keptRecord]; split <;> rfl
  | _ => rfl

theorem Profile.keptRecord_counts (shadow : Profile) (x : Record) :
    (shadow.keptRecord x).countsAgainst = none := by
  cases x with
  | granted | tripped => simp only [Profile.keptRecord]; split <;> rfl
  | _ => rfl

theorem Profile.keptRecord_noticeFits (shadow : Profile) (x : Record) :
    (shadow.keptRecord x).noticeFits = true := by
  cases x with
  | granted | tripped => simp only [Profile.keptRecord]; split <;> rfl
  | _ => rfl

/-- A record that RESTART keeps covers and drives what it did. -/
theorem Profile.keptRecord_drives (shadow : Profile) (x : Record) :
    shadow.keptRecord x = .free ∨ (shadow.keptRecord x).driven = x.driven
      ∧ ∀ n, (shadow.keptRecord x).covers n = x.covers n := by
  cases x with
  | free | waiting | ended => exact .inl rfl
  | deviceTripped | held => exact .inr ⟨rfl, fun _ => rfl⟩
  | granted | tripped =>
    simp only [Profile.keptRecord]
    split
    · exact .inr ⟨rfl, fun _ => rfl⟩
    · exact .inl rfl

theorem State.restarted_rails (s : State) (r : Rail) :
    s.restarted.rail r = { s.restartTable.rail r with waiting := [], cap := Config.fullCap } := by
  rw [← State.restartRails_rail]
  simp only [State.rail, State.restarted_eq]

theorem State.TableLaws.restarted {s : State} (hs : s.TableLaws) : s.restarted.TableLaws := by
  have hcuts : ∀ {h n}, (s.record h).covers n = true →
      ((∃ k, s.shadow.cutsOff (s.record k) n = true) ↔
        s.shadow.cutsOff (s.record h) n = true) := fun {h n} hc => by
    refine ⟨fun ⟨k, hk⟩ => ?_, fun hk => ⟨h, hk⟩⟩
    have hkc : (s.record k).covers n = true := by
      simp only [Profile.cutsOff, Bool.and_eq_true] at hk; exact hk.1.2
    rwa [hs.drives.once k h n hkc hc] at hk
  have hgrants : s.restartTable.GrantOrdersExact := hs.grants.restartRecords _
  refine
    { waiting := hs.waiting.ofSublist (fun r => ?_) (fun r k => ?_) fun k => .inl ?_
      grants := hgrants.congr (fun r => ?_) (fun r => ?_)
        fun k => ?_
      drives :=
        { once := fun k k' n hk hk' => ?_
          driven := fun k n hk => ?_
          undriven := fun n hn => ?_ }
      channels := fun n => ?_
      records := fun k => ?_
      quotas := fun p => ?_ }
  · rw [State.restarted_rails]; exact List.nil_sublist _
  · rw [State.restarted_rails, State.restarted_record, Profile.keptRecord_waits]; simp
  · rw [State.restarted_record, Profile.keptRecord_waits]
  · rw [State.restarted_rails]
  · rw [State.restarted_rails]
  · rw [State.restarted_record, ← State.restartTable_record]
  · have kept : ∀ {k n}, (s.restarted.record k).covers n = true → (s.record k).covers n = true := by
      intro k n hk
      rw [State.restarted_record] at hk
      rcases s.shadow.keptRecord_drives (s.record k) with hf | ⟨-, hc⟩
      · rw [hf] at hk; cases hk
      · rwa [hc] at hk
    exact hs.drives.once k k' n (kept hk) (kept hk')
  · rw [State.restarted_record] at hk ⊢
    rcases s.shadow.keptRecord_drives (s.record k) with hf | ⟨hd, hc⟩
    · rw [hf] at hk; cases hk
    · rw [hc] at hk
      rw [State.restarted_channel, if_neg, hd, hs.drives.driven k n hk]
      rw [hcuts hk]
      intro hcut
      simp only [Profile.cutsOff, Bool.and_eq_true] at hcut
      have hcov := hc n
      rw [Record.isFree_iff.1 hcut.2, hk] at hcov
      cases hcov
  · rw [State.restarted_channel]
    split
    · exact Channel.turnOff_state _
    · next hno =>
      by_cases hcov : ∃ h, (s.record h).covers n = true
      · obtain ⟨h, hh⟩ := hcov
        have hfree : s.shadow.keptRecord (s.record h) = .free := by
          rcases s.shadow.keptRecord_drives (s.record h) with hf | ⟨-, hc⟩
          · exact hf
          · have := hn h
            rw [State.restarted_record, hc, hh] at this; cases this
        rw [hcuts hh] at hno
        have hnot : (s.record h).isCommitting = false := by
          simpa [Profile.cutsOff, hfree, hh, Record.isFree] using hno
        rw [hs.drives.driven h n hh]
        cases hx : s.record h <;> simp_all [Record.driven, Record.isCommitting]
      · exact hs.drives.undriven n fun h => Bool.eq_false_iff.2 fun hc => hcov ⟨h, hc⟩
  · rw [State.restarted_channel]
    split
    · exact (hs.channels n).turnOff
    · exact hs.channels n
  · refine Record.Lawful.quiet ?_ s.restarted_quiet
    rw [State.restarted_record]
    rcases s.shadow.keptRecord_cases (s.record k) with hf | ⟨-, -, hb, -⟩
    · rw [hf]; exact .free s
    · refine (hs.records k).ofBooking (Profile.keptRecord_noticeFits _ _)
        (fun b hb' => ⟨b, hb ▸ hb', rfl, rfl⟩) fun n hn => ?_
      rcases s.shadow.keptRecord_drives (s.record k) with hf | ⟨-, hc⟩
      · rw [hf] at hn; cases hn
      · rwa [hc] at hn
  · rw [s.restarted_quiet.portRow p]
    refine le_trans (State.counted_le fun k hk => ?_) (hs.quotas p)
    rw [State.restarted_record, Profile.keptRecord_counts] at hk; cases hk

end Sys2Proof.Machine
end

section
/-! PROOFS. A revocation is a run of endings along its order. -/

namespace Sys2Proof.Machine

/-! ## One ending of a committing record (R37) -/

theorem State.GrantOrdersExact.endRecord {s : State} (hs : s.GrantOrdersExact) (h : Handle)
    (reason : Reason) : (s.endRecord h reason).GrantOrdersExact := by
  refine hs.leave (h := h) (fun r => ?_) (fun r => ?_) ?_ fun k hk => ?_
  · rw [State.endRecord_rail, (hs.withdraw_rail h r).1]
  · rw [State.endRecord_rail, (hs.withdraw_rail h r).2]
  · rcases s.endRecord_cases h reason with he | ⟨b, c, -, -, he⟩
    · rw [he, State.freeRecord_record, if_pos rfl]; rfl
    · rw [he, State.setRecord_record_same]; rfl
  · rw [State.endRecord_record_ne s reason hk]

/-- What a record is once it has ended (R5). -/
def Record.endedAs (x : Record) (reason : Reason) : Record :=
  match x.booking?, x.owedParty? with
  | some b, some c => .ended b ⟨reason, c⟩
  | _, _ => .free

theorem State.endRecord_record (s : State) (h k : Handle) (reason : Reason) :
    (s.endRecord h reason).record k = if h = k then (s.record h).endedAs reason else s.record k := by
  split
  · next he =>
    subst he
    have hfree : (s.freeRecord h).record h = .free := by rw [State.freeRecord_record, if_pos rfl]
    cases hb : (s.record h).booking? with
    | none => rw [State.endRecord_of_unbooked reason hb, hfree, Record.endedAs, hb]
    | some b =>
      cases hc : (s.record h).owedParty? with
      | none => rw [State.endRecord_of_unowed reason hc, hfree, Record.endedAs, hb, hc]
      | some c =>
        rw [State.endRecord_of_owed reason hb hc, State.setRecord_record_same, Record.endedAs, hb, hc]
  · next he => exact State.endRecord_record_ne s reason (Ne.symm he)

theorem Record.endedAs_commits (x : Record) (reason : Reason) :
    (x.endedAs reason).isCommitting = false := by
  unfold Record.endedAs; split <;> rfl

theorem State.withdraw_rail_of_committing {s : State} {h : Handle} {b : Booking}
    (hb : (s.record h).booking? = some b) (hc : (s.record h).isCommitting = true) (k : Rail) :
    (s.withdraw h).rail k = if b.rail = k then
      { s.rail k with
        committed := (s.rail k).committed - b.current
        grantOrder := (s.rail k).grantOrder.erase h }
      else s.rail k := by
  simp only [State.withdraw, hb, hc, if_true, State.onChannel_rail, State.leaveGrants,
    State.onRail_rail]
  split
  · next he => rw [he]
  · rfl

theorem State.GrantOrdersExact.current_le {s : State} (hs : s.GrantOrdersExact) {h : Handle}
    {r : Rail} (hh : h ∈ (s.rail r).grantOrder) :
    (s.record h).currentOr0 ≤ (s.rail r).committed := by
  rw [hs.committed_eq]
  exact List.single_le_sum (fun _ _ => Nat.zero_le _) _ (List.mem_map_of_mem hh)

/-! ## Endings one after another (R37) -/

/-- `t` comes from `s` by ending the committing records `l` of rail `r` in the order of `l`, each
while committed is above the limit. -/
inductive State.EndsAlong (r : Rail) : State → List Handle → State → Prop
  | nil (s : State) : State.EndsAlong r s [] s
  | cons {s t : State} {h : Handle} {hs : List Handle} {b : Booking}
      (hb : (s.record h).booking? = some b) (hc : (s.record h).isCommitting = true)
      (hr : b.rail = r) (hover : (s.rail r).limit < (s.rail r).committed)
      (hrest : State.EndsAlong r (s.endRecord h .revoked) hs t) :
      State.EndsAlong r s (h :: hs) t

theorem State.revokeFrom_endsAlong {r : Rail} {l : List Handle} {s : State} (hnodup : l.Nodup)
    (hl : ∀ h ∈ l, (s.record h).isCommitting = true ∧ (s.record h).onRail r = true) :
    ∃ ended rest, l = ended ++ rest ∧ s.EndsAlong r ended (s.revokeFrom r l)
      ∧ (rest = [] ∨ ((s.revokeFrom r l).rail r).committed ≤ ((s.revokeFrom r l).rail r).limit) := by
  induction l generalizing s with
  | nil => exact ⟨[], [], rfl, .nil s, .inl rfl⟩
  | cons h hs ih =>
    unfold State.revokeFrom
    split
    · next hover =>
      obtain ⟨hh, hhs⟩ := List.nodup_cons.1 hnodup
      obtain ⟨hc, hr⟩ := hl h List.mem_cons_self
      obtain ⟨b, hb, hbr⟩ := (Option.any_eq_true _ _).1 hr
      obtain ⟨ended, rest, he, hg, hstop⟩ := ih (s := s.endRecord h .revoked) hhs fun k hk => by
        rw [State.endRecord_record_ne s _ fun he : k = h => hh (he ▸ hk)]
        exact hl k (List.mem_cons_of_mem _ hk)
      exact ⟨h :: ended, rest, by rw [he]; rfl, .cons hb hc (by simpa using hbr) hover hg, hstop⟩
    · next hover => exact ⟨[], h :: hs, rfl, .nil s, .inr (Nat.le_of_not_lt hover)⟩

namespace State.EndsAlong

variable {r : Rail} {s t : State} {l : List Handle}

theorem isCommitting (hg : s.EndsAlong r l t) {k : Handle} (hk : k ∈ l) :
    (s.record k).isCommitting = true := by
  induction hg with
  | nil => cases hk
  | cons hb hc hr hover hrest ih =>
    rcases List.mem_cons.1 hk with rfl | hk
    · exact hc
    · have hcom := ih hk
      rw [State.endRecord_record] at hcom
      split at hcom
      · rw [Record.endedAs_commits] at hcom; cases hcom
      · exact hcom

/-- A record ended is committing no more, so that it is ended once. -/
theorem not_mem_of_ended {h : Handle} (hg : (s.endRecord h .revoked).EndsAlong r l t) : h ∉ l :=
  fun hin => by
    simpa [State.endRecord_record, Record.endedAs_commits] using hg.isCommitting hin

theorem record_of_not_mem (hg : s.EndsAlong r l t) {k : Handle} (hk : k ∉ l) :
    t.record k = s.record k := by
  induction hg with
  | nil => rfl
  | cons hb hc hr hover hrest ih =>
    rw [List.mem_cons, not_or] at hk
    rw [ih hk.2, State.endRecord_record_ne _ _ hk.1]

theorem record_of_mem (hg : s.EndsAlong r l t) {k : Handle} (hk : k ∈ l) :
    t.record k = (s.record k).endedAs .revoked := by
  induction hg with
  | nil => cases hk
  | @cons s t h hs b hb hc hr hover hrest ih =>
    rcases List.mem_cons.1 hk with rfl | hk
    · rw [hrest.record_of_not_mem hrest.not_mem_of_ended, State.endRecord_record, if_pos rfl]
    · rw [ih hk, State.endRecord_record_ne _ _ fun he : k = h => hrest.not_mem_of_ended (he ▸ hk)]

/-- The records still to be ended are as they were before the first is. -/
theorem record_of_later {h k : Handle} (hg : (s.endRecord h .revoked).EndsAlong r l t)
    (hk : k ∈ l) :
    (s.endRecord h .revoked).record k = s.record k :=
  State.endRecord_record_ne _ _ fun he => hg.not_mem_of_ended (he ▸ hk)

theorem nodup (hg : s.EndsAlong r l t) : l.Nodup := by
  induction hg with
  | nil => exact List.nodup_nil
  | cons hb hc hr hover hrest ih => exact List.nodup_cons.2 ⟨hrest.not_mem_of_ended, ih⟩

theorem tableOnly (hg : s.EndsAlong r l t) : s.TableOnly t := by
  induction hg with
  | nil => exact .refl _
  | cons hb hc hr hover hrest ih => exact (State.endRecord_tableOnly _ _ _).trans ih

theorem rail_ne (hg : s.EndsAlong r l t) {k : Rail} (hk : k ≠ r) : t.rail k = s.rail k := by
  induction hg with
  | nil => rfl
  | cons hb hc hr hover hrest ih =>
    rw [ih, State.endRecord_rail, State.withdraw_rail_of_committing hb hc,
      if_neg (by rw [hr]; exact hk.symm)]

/-- The waiting list stays, and the records ended leave the grant order. -/
theorem lists (hg : s.EndsAlong r l t) (hs : s.GrantOrdersExact) :
    (t.rail r).waiting = (s.rail r).waiting
      ∧ (t.rail r).grantOrder = (s.rail r).grantOrder.filter (fun y => y ∉ l) := by
  induction hg with
  | nil => simp
  | @cons s t h hs' b hb hc hr hover hrest ih =>
    obtain ⟨hw, ho⟩ := ih (hs.endRecord h _)
    rw [hw, ho, State.endRecord_rail, State.withdraw_rail_of_committing hb hc, if_pos hr]
    refine ⟨rfl, ?_⟩
    rw [(hs.nodup r).erase_eq_filter, List.filter_filter]
    refine List.filter_congr fun y _ => ?_
    rw [Bool.eq_iff_iff]
    simp [and_comm]

theorem committed (hg : s.EndsAlong r l t) (hs : s.GrantOrdersExact) :
    (t.rail r).committed + (l.map (fun x => (s.record x).currentOr0)).sum = (s.rail r).committed := by
  induction hg with
  | nil => simp
  | @cons s t h hs' b hb hc hr hover hrest ih =>
    have hlater := ih (hs.endRecord h _)
    have hmap : (hs'.map fun x => ((s.endRecord h .revoked).record x).currentOr0) =
        hs'.map fun x => (s.record x).currentOr0 :=
      List.map_congr_left fun k hk => by rw [hrest.record_of_later hk]
    have hin : h ∈ (s.rail r).grantOrder :=
      hs.mem_iff.2 ⟨hc, by simp [Record.onRail, hb, hr]⟩
    have hle := hs.current_le hin
    have hcur : (s.record h).currentOr0 = b.current := by simp [Record.currentOr0, hb]
    rw [hmap, State.endRecord_rail, State.withdraw_rail_of_committing hb hc, if_pos hr] at hlater
    simp only [List.map_cons, List.sum_cons]
    simp only at hlater
    omega

/-- The record ended last was ended while committed was above the limit (R37). -/
theorem last (hg : s.EndsAlong r l t) (hs : s.GrantOrdersExact) {x : Handle}
    (hx : l.getLast? = some x) :
    (s.rail r).limit < (t.rail r).committed + (s.record x).currentOr0 := by
  induction hg with
  | nil => cases hx
  | @cons s t h hs' b hb hc hr hover hrest ih =>
    cases hs' with
    | nil =>
      obtain rfl : h = x := by simpa using hx
      have hall := (State.EndsAlong.cons hb hc hr hover hrest).committed hs
      simp only [List.map_cons, List.map_nil, List.sum_cons, List.sum_nil] at hall
      omega
    | cons y ys =>
      rw [List.getLast?_cons_cons] at hx
      have hlast := ih (hs.endRecord h _) hx
      rw [hrest.record_of_later (List.mem_of_getLast? hx),
        (s.endRecord_tableOnly h .revoked).limit r] at hlast
      exact hlast

/-- The channels of the records ended are turned off, and every other is as it was (R38). -/
theorem channel (hg : s.EndsAlong r l t) (n : Output) :
    t.channel n = if ∃ h ∈ l, (s.record h).covers n = true then (s.channel n).turnOff
      else s.channel n := by
  induction hg with
  | nil => simp
  | @cons s t h hs' b hb hc hr hover hrest ih =>
    have hlater : (∃ k ∈ hs', ((s.endRecord h .revoked).record k).covers n = true) ↔
        ∃ k ∈ hs', (s.record k).covers n = true :=
      exists_congr fun k => and_congr_right fun hk => by rw [hrest.record_of_later hk]
    simp only [ih, hlater, State.endRecord_channel, hc, true_and, List.exists_mem_cons_iff]
    by_cases h1 : (s.record h).covers n = true
    · simp only [h1, if_true, true_or, Channel.turnOff_turnOff, ite_self]
    · simp only [h1, if_false, false_or, Bool.false_eq_true]

end State.EndsAlong

/-! ## The order of a revocation -/

/-- In a list without repetition the handles stand in the order of their places. -/
theorem pairwise_idxOf_of_nodup {l : List Handle} (hl : l.Nodup) :
    l.Pairwise (fun x y => l.idxOf x < l.idxOf y) := by
  rw [List.pairwise_iff_getElem]
  intro i j hi hj hij
  rw [hl.idxOf_getElem, hl.idxOf_getElem]
  exact hij

/-- Record `x` is revoked before `y`: it is of a lower-priority class, or newer within the class
(R37). -/
def State.RevokedBefore (s : State) (r : Rail) (x y : Handle) : Prop :=
  ∃ b c, (s.record x).booking? = some b ∧ (s.record y).booking? = some c
    ∧ (c.cls < b.cls ∨ b.cls = c.cls
      ∧ (s.rail r).grantOrder.idxOf y < (s.rail r).grantOrder.idxOf x)

theorem State.mem_revocationOrder {s : State} {r : Rail} {h : Handle} :
    h ∈ s.revocationOrder r ↔ h ∈ (s.rail r).grantOrder ∧ ∃ b, (s.record h).booking? = some b := by
  simp only [State.revocationOrder, List.mem_flatMap, List.mem_filter, List.mem_reverse,
    Option.any_eq_true, decide_eq_true_eq]
  constructor
  · rintro ⟨c, -, hh, b, hb, -⟩; exact ⟨hh, b, hb⟩
  · rintro ⟨hh, b, hb⟩
    refine ⟨b.cls, ?_, hh, b, hb, rfl⟩
    generalize b.cls = c
    revert c; decide

theorem State.GrantOrdersExact.mem_revocationOrder {s : State} (hs : s.GrantOrdersExact) {r : Rail}
    {h : Handle} : h ∈ s.revocationOrder r ↔ h ∈ (s.rail r).grantOrder := by
  rw [State.mem_revocationOrder]
  refine ⟨fun h => h.1, fun hh => ⟨hh, ?_⟩⟩
  obtain ⟨b, hb, -⟩ := (Option.any_eq_true _ _).1 (hs.mem_iff.1 hh).2
  exact ⟨b, hb⟩

theorem State.GrantOrdersExact.revocationOrder_pairwise {s : State} (hs : s.GrantOrdersExact)
    (r : Rail) : (s.revocationOrder r).Pairwise (s.RevokedBefore r) := by
  rw [State.revocationOrder, List.pairwise_flatMap]
  constructor
  · intro c _
    have hplaces : (s.rail r).grantOrder.reverse.Pairwise (fun x y =>
        (s.rail r).grantOrder.idxOf y < (s.rail r).grantOrder.idxOf x) :=
      List.pairwise_reverse.2 (pairwise_idxOf_of_nodup (hs.nodup r))
    refine (hplaces.filter _).imp_of_mem fun {x y} hx hy hlt => ?_
    obtain ⟨b, hb, hbc⟩ := (Option.any_eq_true _ _).1 (List.mem_filter.1 hx).2
    obtain ⟨b', hb', hbc'⟩ := (Option.any_eq_true _ _).1 (List.mem_filter.1 hy).2
    simp only [decide_eq_true_eq] at hbc hbc'
    exact ⟨b, b', hb, hb', .inr ⟨hbc.trans hbc'.symm, hlt⟩⟩
  · have hclasses : [3, 2, 1, 0].Pairwise (fun c c' : LeaseClass => c' < c) := by decide
    refine hclasses.imp fun {c c'} hlt x hx y hy => ?_
    obtain ⟨b, hb, hbc⟩ := (Option.any_eq_true _ _).1 (List.mem_filter.1 hx).2
    obtain ⟨b', hb', hbc'⟩ := (Option.any_eq_true _ _).1 (List.mem_filter.1 hy).2
    simp only [decide_eq_true_eq] at hbc hbc'
    exact ⟨b, b', hb, hb', .inl (by rw [hbc, hbc']; exact hlt)⟩

theorem State.RevokedBefore.ne {s : State} {r : Rail} {x y : Handle} (h : s.RevokedBefore r x y) :
    x ≠ y := by
  rintro rfl
  obtain ⟨b, c, hb, hc, hor⟩ := h
  rw [hb] at hc; cases hc
  rcases hor with hor | ⟨-, hor⟩ <;> exact lt_irrefl _ hor

/-- A revocation ends records of the rail along its order, and leaves committed within the limit
(R37). -/
theorem State.GrantOrdersExact.revoke_endsAlong {s : State} (hs : s.GrantOrdersExact) (r : Rail) :
    ∃ ended rest, s.revocationOrder r = ended ++ rest ∧ s.EndsAlong r ended (s.revoke r)
      ∧ ((s.revoke r).rail r).committed ≤ (s.rail r).limit := by
  obtain ⟨ended, rest, hl, hg, hstop⟩ := State.revokeFrom_endsAlong (s := s) (r := r)
    ((hs.revocationOrder_pairwise r).imp fun h => h.ne)
    fun h hh => hs.mem_iff.1 (hs.mem_revocationOrder.1 hh)
  rw [← State.revoke] at hg hstop
  refine ⟨ended, rest, hl, hg, ?_⟩
  rcases hstop with rfl | hstop
  · -- every committing record of the rail has ended
    have hgone : ((s.revoke r).rail r).grantOrder = [] := by
      rw [(hg.lists hs).2, List.filter_eq_nil_iff]
      intro y hy
      rw [List.append_nil] at hl
      simpa [← hl] using hs.mem_revocationOrder.2 hy
    have hexact : (s.revoke r).GrantOrdersExact :=
      State.revoke_keeps (fun k h => h.endRecord k _) r hs
    rw [hexact.committed_eq, hgone]
    exact Nat.zero_le _
  · exact hstop.trans_eq (hg.tableOnly.limit r)

/-! ## The notices of a revocation (R104, R105, R107) -/

/-- An ending takes the record out of its notice's place and puts it last in the order of the party
its final notice is owed to. -/
theorem State.NoticeLaws.endRecord_port {s : State} (hs : s.NoticeLaws) {h : Handle} {b : Booking}
    (hb : (s.record h).booking? = some b) (reason : Reason) (q : Port) :
    (s.endRecord h reason).port q = { s.port q with
      noticeOrder := (s.port q).noticeOrder.erase h
        ++ (if (s.record h).countsAgainst = some q then [h] else [])
      attnLow := !((s.port q).noticeOrder.erase h
        ++ (if (s.record h).countsAgainst = some q then [h] else [])).isEmpty } := by
  have hw := hs.withdraw h
  have hnotice : ((s.withdraw h).record h).notice? = (s.record h).notice? := by
    rw [State.withdraw_record]
  cases hc : (s.record h).owedParty? with
  | none =>
    rw [State.endRecord_of_unowed reason hc, State.freeRecord, State.setRecord_port,
      hw.dropNotice_port hnotice, State.withdraw_port]
    simp [Record.countsAgainst, hc]
  | some c =>
    rw [State.endRecord_of_owed reason hb hc, State.setRecord_port, hw.postNotice_port hnotice,
      State.withdraw_port]
    simp [Record.countsAgainst, hc]

/-- The orders once the records `l` have ended: out of their old places, and last in the orders of
the parties their final notices are owed to. -/
def State.revokedOrder (s : State) (l : List Handle) (q : Port) : List Handle :=
  (s.port q).noticeOrder.filter (fun x => x ∉ l)
    ++ l.filter (fun x => (s.record x).countsAgainst = some q)

theorem State.EndsAlong.port {r : Rail} {s t : State} {l : List Handle} (hg : s.EndsAlong r l t)
    (hs : s.NoticeLaws) (q : Port) :
    t.port q = { s.port q with
      noticeOrder := s.revokedOrder l q, attnLow := !(s.revokedOrder l q).isEmpty } := by
  induction hg with
  | nil s => simp [State.revokedOrder, ← hs.attn q]
  | @cons s t h hs' b hb hc hr hover hrest ih =>
    have hout := hrest.not_mem_of_ended
    have horder : (s.endRecord h .revoked).revokedOrder hs' q = s.revokedOrder (h :: hs') q := by
      have hlater : hs'.filter (fun x =>
          ((s.endRecord h .revoked).record x).countsAgainst = some q) =
          hs'.filter (fun x => (s.record x).countsAgainst = some q) :=
        List.filter_congr fun k hk => by rw [hrest.record_of_later hk]
      have hplaces : ((s.port q).noticeOrder.erase h).filter (fun x => x ∉ hs') =
          (s.port q).noticeOrder.filter (fun x => x ∉ h :: hs') := by
        rw [(hs.exact q).1.erase_eq_filter, List.filter_filter]
        exact List.filter_congr fun y _ => by
          rw [Bool.eq_iff_iff]; simp [and_comm]
      rw [State.revokedOrder, State.revokedOrder, hlater, hs.endRecord_port hb,
        List.filter_append, hplaces]
      by_cases hcount : (s.record h).countsAgainst = some q <;> simp [hcount, hout]
    rw [ih (hs.endRecord h _), horder, hs.endRecord_port hb]

/-- Settles O30: the revocation is a run of endings along the revocation order, and each clause is
what such a run writes. -/
theorem revocationOrder : Obligations.RevocationOrder := by
  intro s r hs
  obtain ⟨ended, rest, hl, hg, hwithin⟩ := hs.revoke_endsAlong r
  have hpair := hs.revocationOrder_pairwise r
  rw [hl, List.pairwise_append] at hpair
  obtain ⟨hended, -, hbefore⟩ := hpair
  have hmem : ∀ {x}, x ∈ (s.rail r).grantOrder ↔ x ∈ ended ∨ x ∈ rest := fun {x} => by
    rw [← hs.mem_revocationOrder, hl, List.mem_append]
  refine ⟨ended, hended, fun x hx => hmem.2 (.inl hx), (hg.lists hs).2, fun x hx y hy => ?_,
    hg.committed hs, hg.tableOnly.limit r, hwithin, fun x hx => hg.last hs hx, fun x hx => ?_,
    fun x hx => hg.record_of_not_mem hx, fun hn ha q => hg.port ⟨hn, ha⟩ q, fun hf x hx n hn => ?_,
    fun n hn => ?_, (hg.lists hs).1, fun k hk => hg.rail_ne hk, hg.tableOnly.mode,
    hg.tableOnly.changeCount⟩
  · rw [(hg.lists hs).2, List.mem_filter, decide_eq_true_eq] at hy
    exact hbefore x hx y ((hmem.1 hy.1).resolve_left hy.2)
  · obtain ⟨b, hb, -⟩ := (Option.any_eq_true _ _).1 (hs.mem_iff.1 (hmem.2 (.inl hx))).2
    refine ⟨b, hb, ?_⟩
    rw [hg.record_of_mem hx, Record.endedAs, hb]
    cases (s.record x).owedParty? <;> rfl
  · rw [hg.channel, if_pos ⟨x, hx, hn⟩, Channel.turnOff]
    have hcom := hg.isCommitting hx
    obtain ⟨hon, hretry⟩ := hf n
    have hdriving : (s.channel n).state = .on ∨ (s.channel n).state = .retry := by
      cases hxr : s.record x <;> rw [hxr] at hcom <;> try cases hcom
      · exact .inl (hon.2 ⟨x, hn, by rw [hxr]; rfl⟩)
      · exact .inr (hretry.2 ⟨x, hn, by rw [hxr]; rfl⟩)
      · exact .inr (hretry.2 ⟨x, hn, by rw [hxr]; rfl⟩)
      · exact .inl (hon.2 ⟨x, hn, by rw [hxr]; rfl⟩)
    rcases hdriving with h | h <;> rw [h]
  · rw [hg.channel, if_neg]
    rintro ⟨x, hx, hc⟩
    rw [hn x hx] at hc; cases hc

end Sys2Proof.Machine
end

section
/-! PROOFS. The limits and the heads of the waiting lists: what a change of a rail does to them, and
what a scan puts right. -/

namespace Sys2Proof.Machine

/-! ## The laws of one rail -/

/-- On rail `r` committed is within the limit, and in SERVICE the head of the waiting list does not
fit (R28, R52). -/
structure State.LimitLaws (s : State) (r : Rail) : Prop where
  within : (s.rail r).committed ≤ (s.rail r).limit
  head : s.mode = .service → ∀ h ∈ (s.rail r).waiting.head?, ∀ b ∈ (s.record h).booking?,
    (s.rail r).room b.cls < b.current

/-- A lower limit, more committed and the same reserve leave no more room (R29). -/
theorem Account.room_le {a a' : Account} (hl : a'.limit ≤ a.limit) (hc : a.committed ≤ a'.committed)
    (hr : a'.reserve = a.reserve) (c : LeaseClass) : a'.room c ≤ a.room c := by
  simp only [Account.room, hr]
  split <;> omega

/-- What fits the room stays within the limit once it is committed. -/
theorem Account.le_limit_of_room {a : Account} (hw : a.committed ≤ a.limit) {c : LeaseClass} {d : Nat}
    (hd : d ≤ a.room c) : a.committed + d ≤ a.limit := by
  simp only [Account.room] at hd
  split at hd <;> omega

/-- With the list as it was, and no more room, the head does not fit still. -/
theorem State.LimitLaws.mono {s t : State} {r : Rail} (hs : s.LimitLaws r)
    (hmode : t.mode = s.mode) (hwait : (t.rail r).waiting = (s.rail r).waiting)
    (hbook : ∀ h ∈ (s.rail r).waiting, (t.record h).booking? = (s.record h).booking?)
    (hroom : ∀ c, (t.rail r).room c ≤ (s.rail r).room c)
    (hwithin : (t.rail r).committed ≤ (t.rail r).limit) : t.LimitLaws r where
  within := hwithin
  head hm h hh b hb := by
    rw [hwait] at hh
    rw [hbook h (List.mem_of_head? hh)] at hb
    exact lt_of_le_of_lt (hroom b.cls) (hs.head (hmode ▸ hm) h hh b hb)

/-- With the account as it was, but for what no limit reads, the laws hold still. -/
theorem State.LimitLaws.congr {s t : State} {r : Rail} (hs : s.LimitLaws r)
    (hmode : t.mode = s.mode) (hwait : (t.rail r).waiting = (s.rail r).waiting)
    (hbook : ∀ h ∈ (s.rail r).waiting, (t.record h).booking? = (s.record h).booking?)
    (hlimit : (t.rail r).limit = (s.rail r).limit)
    (hcommitted : (t.rail r).committed = (s.rail r).committed)
    (hreserve : (t.rail r).reserve = (s.rail r).reserve) : t.LimitLaws r :=
  hs.mono hmode hwait hbook
    (fun c => Account.room_le hlimit.le hcommitted.ge hreserve c)
    (by rw [hcommitted, hlimit]; exact hs.within)

/-- The whole account as it was. -/
theorem State.LimitLaws.ofRail {s t : State} {r : Rail} (hs : s.LimitLaws r)
    (hmode : t.mode = s.mode) (hrail : t.rail r = s.rail r)
    (hbook : ∀ h ∈ (s.rail r).waiting, (t.record h).booking? = (s.record h).booking?) :
    t.LimitLaws r :=
  hs.congr hmode (by rw [hrail]) hbook (by rw [hrail]) (by rw [hrail]) (by rw [hrail])

/-! ## A scan (R52) -/

theorem State.scan_booking (s : State) (r : Rail) (k : Handle) :
    ((s.scan r).record k).booking? = (s.record k).booking? :=
  State.scan_keeps (P := fun t => (t.record k).booking? = (s.record k).booking?)
    (fun h hx _ => (State.grantWaiter_record_apply Record.booking? hx (fun _ _ => rfl) k).trans h)
    rfl

theorem State.WaitingListsExact.scan_rail_ne {s : State} (hs : s.WaitingListsExact) {r k : Rail}
    (hk : k ≠ r) : (s.scan r).rail k = s.rail k :=
  hs.scan_keeps (P := fun t => t.rail k = s.rail k)
    (fun h _ hr _ => by rw [State.grantWaiter_rail_ne _ _ _ _ (hr ▸ hk), h]) rfl

theorem State.WaitingListsExact.scan_within {s : State} (hs : s.WaitingListsExact) {r : Rail}
    (hw : (s.rail r).committed ≤ (s.rail r).limit) :
    ((s.scan r).rail r).committed ≤ ((s.scan r).rail r).limit :=
  hs.scan_keeps (P := fun t => (t.rail r).committed ≤ (t.rail r).limit)
    (fun h _ hr hfit => by
      subst hr
      rw [State.grantWaiter_rail]
      exact Account.le_limit_of_room h hfit) hw

/-- A scan of a rail within its limit leaves the laws on every rail, where the other rails have
them. -/
theorem State.WaitingListsExact.scan_limitLaws {s : State} (hs : s.WaitingListsExact) {r : Rail}
    (hw : (s.rail r).committed ≤ (s.rail r).limit) (hother : ∀ k, k ≠ r → s.LimitLaws k)
    (k : Rail) :
    (s.scan r).LimitLaws k := by
  by_cases hk : k = r
  · subst hk
    refine ⟨hs.scan_within hw, fun hm h hh b hb => ?_⟩
    rw [(s.scan_tableOnly k).mode] at hm
    obtain ⟨granted, rest, hl, hg, hstop⟩ := hs.scan_grantsAlong hm k
    rw [hg.rail hl] at hh
    rw [Option.mem_def, State.scan_booking] at hb
    exact hstop h b hh hb
  · exact (hother k hk).ofRail (s.scan_tableOnly r).mode (hs.scan_rail_ne hk)
      fun h _ => s.scan_booking r h

/-! ## Acts that keep the lists -/

theorem State.TableLaws.withdraw_limitLaws {s t : State} (hs : s.TableLaws) (hmode : t.mode = s.mode)
    {h : Handle} {b : Booking} (hb : (s.record h).booking? = some b)
    (hrec : ∀ k, k ≠ h → t.record k = s.record k)
    (hrail : ∀ r, t.rail r = (s.withdraw h).rail r) (hl : ∀ r, s.LimitLaws r) :
    (t.rail b.rail).committed ≤ (t.rail b.rail).limit
      ∧ ∀ k, k ≠ b.rail → t.LimitLaws k := by
  refine ⟨?_, fun k hk => ?_⟩
  · have hlimit : (t.rail b.rail).limit = (s.rail b.rail).limit := by
      rw [hrail]; exact (s.withdraw_tableOnly h).limit _
    rw [hlimit, hrail, (hs.grants.withdraw_rail h b.rail).2]
    refine le_trans ?_ (hl b.rail).within
    rw [hs.grants.committed_eq]
    exact (List.erase_sublist.map _).sum_le_sum fun _ _ => Nat.zero_le _
  · have hkeep : (s.withdraw h).rail k = s.rail k := by
      unfold State.withdraw
      rw [hb]
      dsimp only
      split
      · rw [State.onChannel_rail, State.leaveGrants, State.onRail_rail_ne _ _ hk]
      · split
        · rw [State.leaveList, State.onRail_rail_ne _ _ hk]
        · rfl
    refine (hl k).ofRail hmode (by rw [hrail, hkeep]) fun x hx => ?_
    rw [hrec x]
    rintro rfl
    obtain ⟨c, hc⟩ := hs.waiting.mem_waits.1 hx
    have hr := (Record.waits?_iff.2 ⟨c, hc⟩).2
    simp only [Record.onRail, hb, Option.any_some, decide_eq_true_eq] at hr
    exact hk hr.symm

/-- A record freed or ended, and its rail scanned, leaves the laws on every rail. -/
theorem State.TableLaws.gone_scan_limitLaws {s t : State} (hs : s.TableLaws) (ht : t.TableLaws)
    (hmode : t.mode = s.mode) {h : Handle} {b : Booking} (hb : (s.record h).booking? = some b)
    (hrec : ∀ k, k ≠ h → t.record k = s.record k)
    (hrail : ∀ r, t.rail r = (s.withdraw h).rail r) (hl : ∀ r, s.LimitLaws r) (k : Rail) :
    (t.scan b.rail).LimitLaws k := by
  obtain ⟨hwithin, hother⟩ := hs.withdraw_limitLaws hmode hb hrec hrail hl
  exact ht.waiting.scan_limitLaws hwithin hother k

/-- A record on no list gives up nothing. -/
theorem State.withdraw_of_idle {s : State} {h : Handle} (hw : (s.record h).isWaiting = false)
    (hc : (s.record h).isCommitting = false) : s.withdraw h = s := by
  unfold State.withdraw
  split
  · rfl
  · simp [hw, hc]

/-! ## A waiter's place (R15, R49) -/

/-- A new waiter that does not fit leaves a head that does not fit: it is the head only where
no waiter of its class or of higher priority is on the list, and then it asks more than the
room (R30). -/
theorem State.TableLaws.wait_head {s : State} (hs : s.TableLaws) {h : Handle} {b : Booking}
    (hfits : s.fits b.rail b.cls b.current = false) {x : Handle}
    (hx : x ∈ (s.placeWaiter h b.cls (s.rail b.rail).waiting).head?) :
    x ∈ (s.rail b.rail).waiting.head? ∨ x = h ∧ (s.rail b.rail).room b.cls < b.current := by
  cases hw : (s.rail b.rail).waiting with
  | nil =>
    right
    rw [hw] at hx
    obtain rfl : h = x := by simpa [State.placeWaiter] using hx
    refine ⟨rfl, ?_⟩
    have hnone : s.blockers b.rail b.cls = 0 := by simp [State.blockers, hw]
    simpa [State.fits, hnone] using hfits
  | cons y ys =>
    rw [hw, State.placeWaiter] at hx
    split at hx
    · next hbehind =>
      right
      obtain rfl : h = x := by simpa using hx
      refine ⟨rfl, ?_⟩
      -- the first waiter is of lower priority, and so is every other
      have hnone : s.blockers b.rail b.cls = 0 := by
        rw [State.blockers, List.countP_eq_zero]
        intro z hz hblocks
        simp only [Bool.and_eq_true, Option.any_eq_true, decide_eq_true_eq] at hblocks
        obtain ⟨-, d, hd, hle⟩ := hblocks
        have hz' : z ∈ (s.rail b.rail).waiting.dropWhile
            (fun x => !(s.record x).waitsBehind b.cls) := by
          rw [hw] at hz ⊢
          rw [List.dropWhile_cons, if_neg (by simp [hbehind])]
          exact hz
        obtain ⟨e, he, hlt⟩ := hs.waiting.cls_behind hz'
        rw [hd] at he; cases he
        exact absurd hle (not_le.2 hlt)
      simpa [State.fits, hnone] using hfits
    · left
      simpa using hx

end Sys2Proof.Machine
end

section
/-! PROOFS. What every act of the Lease Table, the budget, the channels and the ports keeps of the
laws of the part. -/

namespace Sys2Proof.Machine

/-! ## The laws of the table -/

theorem State.limitChange_of_not_service {s : State} (hm : s.mode ≠ .service) (r : Rail)
    (old : Nat) : s.limitChange r old = (s, 0) := by
  rw [State.limitChange, if_neg hm]

theorem State.TableLaws.limitChange {s : State} (hs : s.TableLaws) (r : Rail) (old : Nat) :
    (s.limitChange r old).1.TableLaws := by
  obtain ⟨u, hu, heq⟩ := s.limitChange_cases r old
  have hlaws : u.TableLaws := by
    rcases hu with rfl | rfl | rfl
    · exact hs
    · exact hs.scan r
    · exact (hs.revoke r).scan r
  rcases heq with heq | heq
  · rw [heq]; exact hlaws
  · rw [heq]; exact hlaws.countChange

/-- Where no record, list or channel is written, the laws hold still. -/
theorem State.TableLaws.same {s t : State} (hs : s.TableLaws) (hq : s.Quiet t)
    (hrec : ∀ k, t.record k = s.record k) (hlists : s.SameLists t)
    (hchan : ∀ n, t.channel n = s.channel n) : t.TableLaws :=
  hs.congr hq (fun k => by rw [hrec]; exact .refl _) (fun k => by rw [hrec]) hlists
    (fun n => by rw [hchan]) fun n => by rw [hchan]; exact hs.channels n

theorem State.onRail_sameLists (s : State) (r : Rail) {g : Account → Account}
    (hg : ∀ a, (g a).waiting = a.waiting ∧ (g a).grantOrder = a.grantOrder
      ∧ (g a).committed = a.committed) : s.SameLists (s.onRail r g) := fun k => by
  rw [State.onRail_rail]
  split
  · next he => rw [← he]; exact hg _
  · exact ⟨rfl, rfl, rfl⟩

theorem Account.ofInputs {a a' : Account} (h : a' = { a with
    cap := a'.cap, health := a'.health, candidate := a'.candidate
    present := a'.present, full := a'.full }) :
    a'.waiting = a.waiting ∧ a'.grantOrder = a.grantOrder ∧ a'.committed = a.committed := by
  rw [h]; exact ⟨rfl, rfl, rfl⟩

theorem Account.ofFilter {a a' : Account} (h : a' = { a with
    candidate := a'.candidate, present := a'.present, full := a'.full }) :
    a'.waiting = a.waiting ∧ a'.grantOrder = a.grantOrder ∧ a'.committed = a.committed := by
  rw [h]; exact ⟨rfl, rfl, rfl⟩

theorem State.runFilters_sameLists (s : State) (filters : BitVec 4) :
    s.SameLists (s.runFilters filters) := fun r => by
  rw [State.runFilters_rail]
  split <;> exact ⟨rfl, rfl, rfl⟩

theorem State.withRecords_channel (s : State) (v : Vector Record 48) (n : Output) :
    { s with records := v }.channel n = s.channel n := rfl

theorem State.withRails_channel (s : State) (v : Vector Account 4) (n : Output) :
    { s with rails := v }.channel n = s.channel n := rfl

theorem State.withChannels_rail (s : State) (v : Vector Channel 24) (r : Rail) :
    { s with channels := v }.rail r = s.rail r := rfl

@[simp] theorem State.runFilters_channel (s : State) (filters : BitVec 4) (n : Output) :
    (s.runFilters filters).channel n = s.channel n := by
  rw [State.runFilters_eq, State.withRails_channel]

@[simp] theorem State.runCountdowns_channel (s : State) (due : BitVec 48) (n : Output) :
    (s.runCountdowns due).channel n = s.channel n := by
  rw [State.runCountdowns_eq, State.withRecords_channel]

theorem Record.covers_of_booking {x : Record} {b : Booking} (hb : x.booking? = some b)
    (hc : x.isCommitting = true) : x.covers b.output = true :=
  Record.covers_iff.2 ⟨.inr hc, b, hb, rfl⟩

theorem Record.renewed_driven (x : Record) (term countdown retries : Nat) :
    (x.renewed term countdown retries).driven = x.driven := by cases x <;> rfl

theorem Record.withoutNotice_driven (x : Record) : x.withoutNotice.driven = x.driven := by
  cases x <;> rfl

theorem Record.lowerCountdown_driven (x : Record) : x.lowerCountdown.driven = x.driven := by
  cases x <;> rfl

theorem Record.restarted_driven {x : Record} (h : x.isTripped = true) :
    x.restarted.driven = .on := by
  cases x <;> simp_all [Record.isTripped, Record.restarted, Record.driven]

/-- A trip that takes a retry: the channel goes to RETRY with its record (R90, R91). -/
theorem State.TableLaws.trip {s t : State} (hs : s.TableLaws) (hq : s.Quiet t) {h : Handle}
    {b : Booking} (hb : (s.record h).booking? = some b) (hc : (s.record h).isCommitting = true)
    {y : Record} (hrec : ∀ k, t.record k = if h = k then y else s.record k)
    (hkeep : (s.record h).Keeps y) (hy : y.driven = .retry) (hrail : ∀ r, t.rail r = s.rail r)
    (hchan : ∀ n, t.channel n = (s.startRetry b).channel n) : t.TableLaws := by
  refine hs.redrive hq hrec hkeep hrail (o := b.output)
    (g := fun c => c.startRetry (s.outputRow b.output).retryDelay) (Record.covers_of_booking hb hc)
    (fun n => ?_) (by rw [hy]; rfl) fun hbar => Channel.Lawful.startRetry hbar _
  rw [hchan, State.startRetry, State.onChannel_channel]
  split
  · next he => rw [he]
  · rfl

/-- Channels written anew in the states they were in keep the laws. -/
theorem State.TableLaws.withChannels {s : State} (hs : s.TableLaws) (v : Vector Channel 24)
    (hq : s.Quiet { s with channels := v }) (hstate : ∀ n, (v.get n).state = (s.channel n).state)
    (hc : ∀ n, (v.get n).Lawful) : { s with channels := v }.TableLaws :=
  hs.congr hq (fun _ => .refl _) (fun _ => rfl) (.ofRail fun _ => rfl) hstate hc

theorem State.Acts.tableLaws {s t : State} (hs : s.TableLaws) (h : s.Acts t) : t.TableLaws := by
  have hq := h.quiet
  obtain ⟨_, h⟩ := h
  cases h with
  | idle => exact hs
  | grant hadm hcov => exact (hs.grant hadm hcov).countChange
  | wait hadm hcov => exact (hs.wait hadm hcov _).countChange
  | claim hadm hcov hdevice hheld hfits hfree =>
    exact ((hs.claim hadm hcov hdevice hheld hfree).scan _).countChange
  | release => exact ((hs.freeRecord _).scan _).countChange
  | finish hb hended hfinal => exact ((hs.endRecord _ hfinal).scan _).countChange
  | renew =>
    exact hs.rewrite hq (fun k => State.setRecord_record ..) (Record.renewed_keeps ..)
      (Record.renewed_driven ..) (fun _ => rfl) fun _ => rfl
  | recount => exact hs.countChange
  | resizeWaiter hb hw => exact ((hs.resizeWaiter hw _).scan _).countChange
  | @resizeLower _ h b x hb hc hpos hx hx' =>
    have hle : b.current ≤ (s.rail b.rail).committed := by
      have hcur : (s.record h).currentOr0 = b.current := by simp [Record.currentOr0, hb]
      rw [← hcur]
      exact hs.grants.current_le (hs.grants.mem_iff.2 ⟨hc, by simp [Record.onRail, hb]⟩)
    exact ((hs.resizeLease hb hc (by omega) rfl).scan _).countChange
  | resizeRaise hb hc hx =>
    exact (hs.resizeLease hb hc (by omega) rfl).countChange
  | ackEnded => exact (hs.freeRecord _).countChange
  | ackOther =>
    exact hs.rewrite hq
      (fun k => by rw [State.countChange_record, State.setRecord_record, State.dropNotice_record])
      (Record.withoutNotice_keeps _) (Record.withoutNotice_driven _) (fun _ => by simp)
      fun _ => by simp
  | holdGranted hx =>
    exact hs.rewrite hq
      (fun k => by rw [State.countChange_record, State.setRecord_record, State.postNotice_record])
      (by rw [hx]; exact Record.held_keeps) (by rw [hx]; rfl) (fun _ => by simp) fun _ => by simp
  | holdTripped hx =>
    exact hs.rewrite hq
      (fun k => by rw [State.countChange_record, State.setRecord_record, State.postNotice_record])
      (by rw [hx]; exact Record.deviceTripped_keeps) (by rw [hx]; rfl) (fun _ => by simp)
      fun _ => by simp
  | tripGranted hx =>
    exact hs.trip hq (by rw [hx]; rfl) (by rw [hx]; rfl)
      (fun k => by rw [State.countChange_record, State.setRecord_record, State.postNotice_record,
        State.startRetry_record])
      (by rw [hx]; exact Record.tripped_keeps) rfl (fun _ => by simp [State.startRetry])
      fun _ => by simp
  | tripHeld hx =>
    exact hs.trip hq (by rw [hx]; rfl) (by rw [hx]; rfl)
      (fun k => by rw [State.countChange_record, State.setRecord_record, State.startRetry_record])
      (by rw [hx]; exact Record.heldTripped_keeps) rfl (fun _ => by simp [State.startRetry])
      fun _ => by simp
  | @restart _ h o hc ht =>
    refine hs.redrive hq (h := h) (o := o) (g := Channel.turnOn)
      (fun k => by rw [State.countChange_record, State.onChannel_record, State.setRecord_record])
      (Record.restarted_keeps _) (fun _ => rfl) hc (fun n => ?_)
      (Record.restarted_driven ht).symm fun hbar => Channel.Lawful.turnOn hbar
    rw [State.countChange_channel, State.onChannel_channel]
    split
    · next he => rw [he]; rfl
    · rfl
  | tick due =>
    refine hs.congr hq (fun k => ?_) (fun k => ?_) (fun r => ?_) (fun n => by simp) fun n => by
      simpa using hs.channels n
    · rw [State.runFilters_record, State.runCountdowns_record]
      split
      · exact Record.lowerCountdown_keeps _
      · exact .refl _
    · rw [State.runFilters_record, State.runCountdowns_record]
      split
      · exact Record.lowerCountdown_driven _
      · rfl
    · have := State.runFilters_sameLists (s.runCountdowns due.countdowns) due.filters r
      rwa [State.runCountdowns_rail] at this
  | restartAll => exact hs.restarted
  | limit hg =>
    exact (hs.same (s.onRail_quiet _ _) (fun _ => rfl)
      (s.onRail_sameLists _ fun a => Account.ofInputs (hg a)) fun _ => rfl).limitChange _ _
  | filter hg =>
    exact hs.same hq (fun _ => rfl) (s.onRail_sameLists _ fun a => Account.ofFilter (hg a))
      fun _ => rfl
  | @fault _ n g hg hraised =>
    refine hs.congr hq (fun k => .refl _) (fun _ => rfl) (.ofRail fun _ => rfl) (fun m => ?_)
      fun m => ?_
    · rw [State.onChannel_channel]
      split
      · next he => rw [hg, he]
      · rfl
    · rw [State.onChannel_channel]
      split
      · exact (hs.channels n).fault (hg _) (hraised _)
      · exact hs.channels m
  | retryTick due =>
    refine hs.withChannels _ hq (fun n => ?_) fun n => ?_
    · rw [vector_get_ofFn]; split <;> rfl
    · rw [vector_get_ofFn]
      split
      · exact (hs.channels n).lowerTimer
      · exact hs.channels n
  | pins =>
    exact hs.same hq (fun k => State.onPort_record ..) (.ofRail fun r => State.onPort_rail ..)
      fun n => State.onPort_channel ..
  | capture | flip | copy | patience =>
    exact hs.same hq (fun k => State.onPort_record ..) (.ofRail fun r => State.onPort_rail ..)
      fun n => State.onPort_channel ..
  | stage => exact hs.same hq (fun _ => rfl) (.ofRail fun _ => rfl) fun _ => rfl

/-! ## FREE records -/


theorem Record.booking?_eq_none {x : Record} (h : x.booking? = none) : x = .free := by
  cases x with
  | free => rfl
  | _ => cases h

section
variable {s : State} {k : Handle} (hk : s.record k = .free)
include hk

theorem State.setRecord_free {h : Handle} (hh : s.record h ≠ .free) (x : Record) :
    (s.setRecord h x).record k = .free := by
  rw [State.setRecord_record_ne _ _ fun he : k = h => hh (he ▸ hk)]
  exact hk

theorem State.freeRecord_free (h : Handle) : (s.freeRecord h).record k = .free := by
  rw [State.freeRecord_record]
  split
  · rfl
  · exact hk

theorem State.endRecord_free (h : Handle) (reason : Reason) :
    (s.endRecord h reason).record k = .free := by
  rw [State.endRecord_record]
  split
  · next he => rw [he, hk]; rfl
  · exact hk

theorem State.scan_free (r : Rail) : (s.scan r).record k = .free :=
  Record.booking?_eq_none (by rw [State.scan_booking, hk]; rfl)

theorem State.revoke_free (r : Rail) : (s.revoke r).record k = .free :=
  State.revoke_keeps (P := fun u => u.record k = .free)
    (fun h hu => State.endRecord_free hu h .revoked) r hk

theorem State.limitChange_free (r : Rail) (old : Nat) :
    (s.limitChange r old).1.record k = .free := by
  obtain ⟨u, hu, hcount⟩ := s.limitChange_cases r old
  have hfree : u.record k = .free := by
    rcases hu with rfl | rfl | rfl
    · exact hk
    · exact State.scan_free hk r
    · exact State.scan_free (State.revoke_free hk r) r
  rcases hcount with h | h
  · rw [h]; exact hfree
  · rw [h]; exact hfree

end

/-- A FREE record stays FREE, but in SERVICE under a REQUEST (R4). -/
theorem State.ActsBy.keepsFree {s t : State} {w : Doer} (h : s.ActsBy w t)
    (hw : s.mode = .service → ∀ p, w ≠ .command .request p) {k : Handle}
    (hk : s.record k = .free) : t.record k = .free := by
  have booked : ∀ {h b}, (s.record h).booking? = some b → s.record h ≠ .free :=
    fun hb he => by rw [he] at hb; cases hb
  have rewritten : ∀ {h} {y : Record}, ((s.record h) = .free → y = .free) →
      (s.setRecord h y).record k = .free := fun {h y} hy => by
    rw [State.setRecord_record]
    split
    · next he => exact hy (he ▸ hk)
    · exact hk
  cases h with
  | idle | recount | stage | fault | filter => exact hk
  | grant hadm | wait hadm | claim hadm => exact absurd rfl (hw hadm.service _)
  | restartAll => rw [State.restarted_record, hk]; rfl
  | release => exact State.scan_free (State.freeRecord_free hk _) _
  | finish => exact State.scan_free (State.endRecord_free hk _ _) _
  | resizeWaiter hb => exact State.scan_free (State.setRecord_free hk (booked hb) _) _
  | resizeLower hb =>
    refine State.scan_free ?_ _
    rw [State.onRail_record]
    exact State.setRecord_free hk (booked hb) _
  | resizeRaise hb => exact State.setRecord_free hk (booked hb) _
  | ackEnded => exact State.freeRecord_free hk _
  | ackOther hn =>
    refine State.setRecord_free (by rw [State.dropNotice_record]; exact hk) ?_ _
    intro he
    rw [State.dropNotice_record] at he
    rw [he] at hn; cases hn
  | holdGranted hx | holdTripped hx =>
    refine State.setRecord_free (by rw [State.postNotice_record]; exact hk) ?_ _
    rw [State.postNotice_record, hx]
    exact nofun
  | tripGranted hx =>
    refine State.setRecord_free (by rw [State.postNotice_record]; exact hk) ?_ _
    rw [State.postNotice_record, State.startRetry_record, hx]
    exact nofun
  | tripHeld hx =>
    refine State.setRecord_free (by exact hk) ?_ _
    rw [State.startRetry_record, hx]
    exact nofun
  | renew => exact rewritten fun he => by rw [he]; rfl
  | restart hc ht => exact rewritten fun he => by rw [he]; rfl
  | tick due =>
    rw [State.runFilters_record, State.runCountdowns_record]
    split
    · rw [hk]; rfl
    · exact hk
  | limit =>
    refine State.limitChange_free ?_ _ _
    rw [State.onRail_record]
    exact hk
  | retryTick => rw [State.withChannels_record]; exact hk
  | pins => exact (State.onPort_record ..).trans hk
  | capture | flip | copy | patience => rw [State.onPort_record]; exact hk

/-! ## What an account keeps from the profile -/

/-- What an account has from its row is the same in both states, and no cap is written
above 8191. -/
def State.SameProfile (s t : State) : Prop :=
  ∀ r, (t.rail r).nominal = (s.rail r).nominal ∧ (t.rail r).reduced = (s.rail r).reduced
    ∧ (t.rail r).reserve = (s.rail r).reserve ∧ (t.rail r).filterTime = (s.rail r).filterTime
    ∧ ((t.rail r).cap = (s.rail r).cap ∨ (t.rail r).cap ≤ 8191)

theorem State.SameProfile.trans {s t u : State} (h : s.SameProfile t) (k : t.SameProfile u) :
    s.SameProfile u := fun r => by
  obtain ⟨h1, h2, h3, h4, h5⟩ := h r
  obtain ⟨k1, k2, k3, k4, k5⟩ := k r
  refine ⟨k1.trans h1, k2.trans h2, k3.trans h3, k4.trans h4, ?_⟩
  rcases k5 with k5 | k5
  · rw [k5]; exact h5
  · exact .inr k5

/-- What a port has of its own is the same in both states: its patience, its buffers and its reply
register. -/
def State.SamePorts (s t : State) : Prop :=
  ∀ p, (t.port p).patience = (s.port p).patience ∧ (t.port p).front = (s.port p).front
    ∧ (t.port p).capture = (s.port p).capture ∧ (t.port p).register = (s.port p).register

theorem State.SamePorts.trans {s t u : State} (h : s.SamePorts t) (k : t.SamePorts u) :
    s.SamePorts u := fun p => by
  obtain ⟨h1, h2, h3, h4⟩ := h p
  obtain ⟨k1, k2, k3, k4⟩ := k p
  exact ⟨k1.trans h1, k2.trans h2, k3.trans h3, k4.trans h4⟩

/-- The settings of the accounts and of the ports, and the staging record, are the same in both
states. -/
structure State.SameSettings (s t : State) : Prop where
  rails : s.SameProfile t
  ports : s.SamePorts t
  staging : t.staging = s.staging

theorem State.SameSettings.trans {s t u : State} (h : s.SameSettings t) (k : t.SameSettings u) :
    s.SameSettings u :=
  ⟨h.rails.trans k.rails, h.ports.trans k.ports, k.staging.trans h.staging⟩

theorem State.SameSettings.ofParts {s t : State} (hr : ∀ r, t.rail r = s.rail r)
    (hp : ∀ p, t.port p = s.port p) (hst : t.staging = s.staging) : s.SameSettings t :=
  ⟨fun r => by rw [hr]; exact ⟨rfl, rfl, rfl, rfl, .inl rfl⟩,
    fun p => by rw [hp]; exact ⟨rfl, rfl, rfl, rfl⟩, hst⟩

theorem State.SameSettings.counted {s t : State} (h : s.SameSettings t) :
    s.SameSettings t.countChange := h.trans (.ofParts (fun _ => rfl) (fun _ => rfl) rfl)

theorem State.TableOnly.sameSettings {s t : State} (h : s.TableOnly t) : s.SameSettings t :=
  ⟨fun r => by rw [h.rails r]; exact ⟨rfl, rfl, rfl, rfl, .inl rfl⟩,
    fun p => by rw [h.ports p]; exact ⟨rfl, rfl, rfl, rfl⟩, by rw [h.rest]⟩

theorem State.onRail_sameSettings (s : State) (r : Rail) {g : Account → Account}
    (hg : ∀ a, (g a).nominal = a.nominal ∧ (g a).reduced = a.reduced ∧ (g a).reserve = a.reserve
      ∧ (g a).filterTime = a.filterTime ∧ ((g a).cap = a.cap ∨ (g a).cap ≤ 8191)) :
    s.SameSettings (s.onRail r g) where
  rails k := by
    rw [State.onRail_rail]
    split
    · next he => rw [← he]; exact hg _
    · exact ⟨rfl, rfl, rfl, rfl, .inl rfl⟩
  ports _ := ⟨rfl, rfl, rfl, rfl⟩
  staging := rfl

theorem State.onPort_sameSettings (s : State) (p : Port) {g : PortState → PortState}
    (hg : ∀ ps, g ps = { ps with shifter := (g ps).shifter, dataOut := (g ps).dataOut }) :
    s.SameSettings (s.onPort p g) where
  rails r := by rw [State.onPort_rail]; exact ⟨rfl, rfl, rfl, rfl, .inl rfl⟩
  ports q := by
    rw [State.onPort_port]
    split
    · next he => rw [hg, he]; exact ⟨rfl, rfl, rfl, rfl⟩
    · exact ⟨rfl, rfl, rfl, rfl⟩
  staging := State.onPort_staging ..

theorem State.giveWay_tableOnly (s : State) (old : Handle) (held : Booking) :
    s.TableOnly (s.giveWay old held) := by
  unfold State.giveWay
  split
  · exact ((s.leaveGrants_tableOnly _ _).trans (State.postNotice_tableOnly _ _ _ _)).trans
      (State.setRecord_tableOnly _ _ _)
  · exact (s.leaveGrants_tableOnly _ _).trans (State.setRecord_tableOnly _ _ _)

theorem State.limitChange_sameSettings (s : State) (r : Rail) (old : Nat) :
    s.SameSettings (s.limitChange r old).1 := by
  obtain ⟨t, ht, heq⟩ := s.limitChange_tableOnly r old
  rcases heq with heq | heq
  · rw [heq]; exact ht.sameSettings
  · rw [heq]; exact ht.sameSettings.counted

/-- The acts that change a setting of port `p`: its buffers and its patience (R118, R119,
R121, R59). -/
inductive State.SettingChange (s : State) (p : Port) : (PortState → PortState) → Prop
  | capture {first : Handle} {count : Nat} (hpos : 0 < count) (hcount : count ≤ 16)
      (hin : first.val + count ≤ 48) :
      s.SettingChange p (fun ps => { ps with capture := .copying first count [] })
  | flip {buffer : Buffer} (hc : (s.port p).capture = .complete buffer) :
      s.SettingChange p (fun ps => { ps with front := some buffer, capture := .idle })
  | copy {first : Handle} {count : Nat} {images images' : List Image}
      (hc : (s.port p).capture = .copying first count images)
      (hi : images' = images ++ [s.image (slotAfter first images.length)]) :
      s.SettingChange p (fun ps => { ps with
        capture := if images'.length < count then .copying first count images'
          else .complete ⟨first, images'⟩ })
  | patience {v : Nat} (hpos : 1 ≤ v) (hv : v ≤ 8191) :
      s.SettingChange p (fun ps => { ps with patience := v })

/-- The acts by the blocks they write: the counted ones write the lease table, with its lists,
orders and channels, and the change count after it (R7). -/
inductive State.Writes (s : State) : Doer → State → Prop
  | nothing {w : Doer} : s.Writes w s
  | table {w : Doer} {u : State} (hu : s.TableOnly u) : s.Writes w u.countChange
  | restart {p : Port} (hmode : s.mode = .service) : s.Writes (.command .restart p) s.restarted
  | tick (due : TermTick) : s.Writes .tick ((s.runCountdowns due.countdowns).runFilters due.filters)
  | limit {w : Doer} {r : Rail} {g : Account → Account} {old : Nat}
      (hg : ∀ a, g a = { a with
        cap := (g a).cap, health := (g a).health, candidate := (g a).candidate
        present := (g a).present, full := (g a).full })
      (hcap : ∀ a, (g a).cap = a.cap ∨ (g a).cap ≤ 8191) :
      s.Writes w ((s.onRail r g).limitChange r old).1
  | inputs {w : Doer} {r : Rail} {g : Account → Account}
      (hg : ∀ a, g a = { a with
        candidate := (g a).candidate, present := (g a).present, full := (g a).full }) :
      s.Writes w (s.onRail r g)
  | channels {w : Doer} (v : Vector Channel 24) : s.Writes w { s with channels := v }
  | pins {p : Port} {g : PortState → PortState} {draws : Nat}
      (hg : ∀ ps, g ps = { ps with shifter := (g ps).shifter, dataOut := (g ps).dataOut }) :
      s.Writes .happening { s.onPort p g with freeDraws := draws }
  | setting {w : Doer} {p : Port} {g : PortState → PortState}
      (hw : w = .happening ∨ ∃ c, w = .command c p) (hg : s.SettingChange p g) :
      s.Writes w (s.onPort p g)
  | stage {w : Doer} {v : Vector Nat 13} (hv : s.InRange → ∀ k, v.get k ≤ 8191) :
      s.Writes w { s with staging := v }

theorem State.ActsBy.writes {s t : State} {w : Doer} (h : s.ActsBy w t) : s.Writes w t := by
  cases h with
  | idle => exact .nothing
  | restartAll hmode => exact .restart hmode
  | tick due => exact .tick due
  | limit hg hcap => exact .limit hg hcap
  | filter hg => exact .inputs hg
  | fault | retryTick => exact .channels _
  | pins hg => exact .pins hg
  | capture hpos hcount hin => exact .setting (.inr ⟨_, rfl⟩) (.capture hpos hcount hin)
  | flip hc => exact .setting (.inr ⟨_, rfl⟩) (.flip hc)
  | copy hc hi => exact .setting (.inl rfl) (.copy hc hi)
  | patience hpos hv => exact .setting (.inr ⟨_, rfl⟩) (.patience hpos hv)
  | stage hv => exact .stage hv
  | recount => exact .table (.refl s)
  | renew => exact .table (s.setRecord_tableOnly _ _)
  | grant =>
    exact .table (((s.setRecord_tableOnly _ _).trans (State.joinGrants_tableOnly _ _ _)).trans
      (State.onChannel_tableOnly _ _ _))
  | wait =>
    exact .table ((s.onRail_tableOnly _ _ fun _ => rfl).trans (State.setRecord_tableOnly _ _ _))
  | claim =>
    exact .table ((((s.giveWay_tableOnly _ _).trans (State.setRecord_tableOnly _ _ _)).trans
      (State.joinGrants_tableOnly _ _ _)).trans (State.scan_tableOnly _ _))
  | release => exact .table ((s.freeRecord_tableOnly _).trans (State.scan_tableOnly _ _))
  | finish => exact .table ((s.endRecord_tableOnly _ _).trans (State.scan_tableOnly _ _))
  | resizeWaiter => exact .table ((s.setRecord_tableOnly _ _).trans (State.scan_tableOnly _ _))
  | resizeLower =>
    exact .table (((s.setRecord_tableOnly _ _).trans
      (State.onRail_tableOnly _ _ _ fun _ => rfl)).trans (State.scan_tableOnly _ _))
  | resizeRaise =>
    exact .table ((s.setRecord_tableOnly _ _).trans (State.onRail_tableOnly _ _ _ fun _ => rfl))
  | ackEnded => exact .table (s.freeRecord_tableOnly _)
  | ackOther =>
    exact .table ((s.dropNotice_tableOnly _ _).trans (State.setRecord_tableOnly _ _ _))
  | holdGranted | holdTripped =>
    exact .table ((s.postNotice_tableOnly _ _ _).trans (State.setRecord_tableOnly _ _ _))
  | tripGranted =>
    exact .table (((s.onChannel_tableOnly _ _).trans (State.postNotice_tableOnly _ _ _ _)).trans
      (State.setRecord_tableOnly _ _ _))
  | tripHeld =>
    exact .table ((s.onChannel_tableOnly _ _).trans (State.setRecord_tableOnly _ _ _))
  | restart =>
    exact .table ((s.setRecord_tableOnly _ _).trans (State.onChannel_tableOnly _ _ _))

/-- An act keeps every setting, is RESTART, stages fields, or changes a setting of one port. -/
theorem State.Acts.sameSettings {s t : State} (h : s.Acts t) :
    s.SameSettings t ∨ s.mode = .service ∧ t = s.restarted
      ∨ (∃ p g, s.SettingChange p g ∧ t = s.onPort p g)
      ∨ ∃ v, (s.InRange → ∀ k, v.get k ≤ 8191) ∧ t = { s with staging := v } := by
  obtain ⟨_, h⟩ := h
  cases h.writes with
  | restart hmode => exact .inr (.inl ⟨hmode, rfl⟩)
  | setting _ hg => exact .inr (.inr (.inl ⟨_, _, hg, rfl⟩))
  | stage hv => exact .inr (.inr (.inr ⟨_, hv, rfl⟩))
  | nothing => exact .inl (.ofParts (fun _ => rfl) (fun _ => rfl) rfl)
  | table hu => exact .inl hu.sameSettings.counted
  | tick due =>
    refine .inl ⟨fun r => ?_, fun p => ?_, ?_⟩
    · rw [State.runFilters_rail, State.runCountdowns_rail]
      split <;> exact ⟨rfl, rfl, rfl, rfl, .inl rfl⟩
    · rw [State.runFilters_port, State.runCountdowns_port]
      exact ⟨rfl, rfl, rfl, rfl⟩
    · rw [State.runFilters_eq, State.runCountdowns_eq]
  | limit hg hcap =>
    refine .inl ((s.onRail_sameSettings _ fun a => ⟨?_, ?_, ?_, ?_, hcap a⟩).trans
      (State.limitChange_sameSettings _ _ _)) <;> rw [hg]
  | inputs hg =>
    refine .inl (s.onRail_sameSettings _ fun a => ⟨?_, ?_, ?_, ?_, .inl ?_⟩) <;> rw [hg]
  | channels =>
    exact .inl (.ofParts (fun r => State.withChannels_rail ..) (fun p => State.withChannels_port ..) rfl)
  | pins hg =>
    exact .inl ((s.onPort_sameSettings _ hg).trans
      (.ofParts (fun _ => rfl) (fun q => by cases q <;> rfl) rfl))

theorem State.Acts.sameProfile {s t : State} (h : s.Acts t) : s.SameProfile t := by
  rcases h.sameSettings with h | ⟨-, rfl⟩ | ⟨p, g, -, rfl⟩ | ⟨v, -, rfl⟩
  · exact h.rails
  · intro r
    rw [State.restarted_rails, s.restartTable_tableOnly.rails r]
    exact ⟨rfl, rfl, rfl, rfl, .inr (le_refl 8191)⟩
  · intro r
    rw [State.onPort_rail]
    exact ⟨rfl, rfl, rfl, rfl, .inl rfl⟩
  · exact fun r => ⟨rfl, rfl, rfl, rfl, .inl rfl⟩

end Sys2Proof.Machine
end

section
/-! PROOFS. The laws of the part as one invariant: every act and every step keeps them. -/

namespace Sys2Proof.Machine

/-! ## A limit change (R36) -/

/-- A revocation that is called for ends a record. -/
theorem State.GrantOrdersExact.revoke_shortens {s : State} (hs : s.GrantOrdersExact) {r : Rail}
    (hover : (s.rail r).limit < (s.rail r).committed) :
    ((s.revoke r).rail r).grantOrder.length < (s.rail r).grantOrder.length := by
  obtain ⟨ended, rest, hl, hg, hwithin⟩ := hs.revoke_endsAlong r
  obtain ⟨x, hx⟩ : ∃ x, x ∈ ended := by
    refine List.exists_mem_of_ne_nil _ ?_
    rintro rfl
    have hsame : s.revoke r = s := by
      generalize s.revoke r = t at hg
      cases hg; rfl
    rw [hsame] at hwithin
    omega
  rw [(hg.lists hs).2, List.length_filter_lt_length_iff_exists]
  refine ⟨x, hs.mem_revocationOrder.1 (by rw [hl]; exact List.mem_append_left _ hx), ?_⟩
  simpa using hx

/-- Settles O29: the four cases of Table 3-4. A revocation that is called for shortens the grant
order, so that its number is not 0. -/
theorem limitChangeActs : Obligations.LimitChangeActs := by
  intro s r old hs
  refine ⟨fun hm => State.limitChange_of_not_service hm r old, fun hm hover => ?_,
    fun hm hwithin hraised => ?_, fun hm hwithin hnot => ?_⟩
  · have hshort := hs.revoke_shortens hover
    simp only [State.limitChange, hm, hover, if_true]
    rw [if_neg (by omega)]
  · simp only [State.limitChange, hm, if_neg (Nat.not_lt.2 hwithin), hraised, if_true,
      State.countGrants]
  · simp only [State.limitChange, hm, if_neg (Nat.not_lt.2 hwithin), if_neg (Nat.not_lt.2 hnot),
      if_true]

theorem State.LimitLaws.counted {s : State} {r : Rail} (hs : s.LimitLaws r) :
    s.countChange.LimitLaws r := ⟨hs.within, hs.head⟩

/-! ## The limits over the acts -/

/-- Accounts and bookings as they were, the laws hold still. -/
theorem State.LimitLaws.keeps {s t : State} {r : Rail} (hs : s.LimitLaws r) (hq : s.Quiet t)
    (hrail : t.rail r = s.rail r) (hbook : ∀ k, (t.record k).booking? = (s.record k).booking?) :
    t.LimitLaws r := hs.ofRail hq.mode hrail fun k _ => hbook k

/-- A record written on the booking it had. -/
theorem State.setRecord_booking {s t : State} {h : Handle} {y : Record}
    (hrec : ∀ k, t.record k = if h = k then y else s.record k)
    (hy : y.booking? = (s.record h).booking?) (k : Handle) :
    (t.record k).booking? = (s.record k).booking? := by
  rw [hrec]
  split
  · next he => rw [hy, he]
  · rfl

theorem State.TableLaws.not_waiting {s : State} (hs : s.TableLaws) {h k : Handle} {r : Rail}
    (hk : k ∈ (s.rail r).waiting) (hh : (s.record h).waits? = none) : k ≠ h := by
  rintro rfl
  obtain ⟨c, hc⟩ := hs.waiting.mem_waits.1 hk
  rw [hh] at hc; cases hc

/-- A change of the account that commits what fits leaves the laws (R14, R42). -/
theorem State.TableLaws.commit_limitLaws {s t : State} (hs : s.TableLaws) (hq : s.Quiet t)
    {h : Handle} (hh : (s.record h).waits? = none) (hrec : ∀ k, k ≠ h → t.record k = s.record k)
    {r : Rail} {c : LeaseClass} {d : Nat} (hd : d ≤ (s.rail r).room c)
    (hrail : ∃ l, t.rail r = { s.rail r with
      committed := (s.rail r).committed + d, grantOrder := l })
    (hother : ∀ k, k ≠ r → t.rail k = s.rail k) (hl : ∀ k, s.LimitLaws k) (k : Rail) :
    t.LimitLaws k := by
  have hbook : ∀ x ∈ (s.rail k).waiting, (t.record x).booking? = (s.record x).booking? :=
    fun x hx => by rw [hrec x (hs.not_waiting hx hh)]
  by_cases hk : k = r
  · subst hk
    obtain ⟨l, hrail⟩ := hrail
    refine (hl k).mono hq.mode (by rw [hrail]) hbook (Account.room_le (by rw [hrail]; exact le_rfl)
      (by rw [hrail]; exact Nat.le_add_right _ _) (by rw [hrail])) ?_
    · rw [hrail]
      exact Account.le_limit_of_room (hl k).within hd
  · exact (hl k).ofRail hq.mode (hother k hk) hbook

theorem State.TableLaws.wait_limitLaws {s : State} (hs : s.TableLaws) {p : Port} {f : Fields}
    {o : Output} {h : Handle} (hadm : s.Admits p f o h)
    (hfits : s.fits (s.asked f o).rail (s.asked f o).cls (s.asked f o).current = false)
    (patience : Nat) (hl : ∀ k, s.LimitLaws k) (k : Rail) :
    ((s.enterList h (s.asked f o)).setRecord h
      (.waiting (s.asked f o) (clientOf p f) f.valueB.toNat patience)).LimitLaws k := by
  have hnw := (State.TableLaws.ofFree hadm.free).1
  have hrec : ∀ x ∈ (s.rail k).waiting, (((s.enterList h (s.asked f o)).setRecord h
      (.waiting (s.asked f o) (clientOf p f) f.valueB.toNat patience)).record x).booking? =
      (s.record x).booking? := fun x hx => by
    rw [State.setRecord_record_ne _ _ (hs.not_waiting hx hnw), State.enterList_record]
  by_cases hk : k = (s.asked f o).rail
  · subst hk
    have hrail : ((s.enterList h (s.asked f o)).setRecord h (.waiting (s.asked f o) (clientOf p f)
        f.valueB.toNat patience)).rail (s.asked f o).rail = { s.rail (s.asked f o).rail with
          waiting := s.placeWaiter h (s.asked f o).cls (s.rail (s.asked f o).rail).waiting } := by
      rw [State.setRecord_rail, State.enterList, State.onRail_rail_same]
    refine ⟨by rw [hrail]; exact (hl _).within, fun hm x hx b hb => ?_⟩
    rw [hrail] at hx ⊢
    rcases hs.wait_head hfits hx with hx | ⟨rfl, hroom⟩
    · rw [hrec x (List.mem_of_head? hx)] at hb
      exact (hl _).head hm x hx b hb
    · rw [State.setRecord_record_same] at hb
      cases hb
      exact hroom
  · refine (hl k).ofRail rfl ?_ hrec
    rw [State.setRecord_rail, State.enterList, State.onRail_rail_ne _ _ hk]

/-- A claim exchanges the held current for one that fits, and the scan puts the head right (R77,
R78). -/
theorem State.TableLaws.claim_limitLaws {s : State} (hs : s.TableLaws) {p : Port} {f : Fields}
    {o : Output} {old h0 h : Handle} {held : Booking} (hadm : s.Admits p f o h0)
    (hcov : s.covering o = some old) (hdevice : (s.record old).isDeviceHeld = true)
    (hheld : (s.record old).booking? = some held)
    (hfits : (s.asked f o).current ≤ held.current ∨ s.fits (s.asked f o).rail (s.asked f o).cls
      ((s.asked f o).current - held.current) = true)
    (hfree : (s.giveWay old held).lowestFree = some h) (hl : ∀ k, s.LimitLaws k) (k : Rail) :
    ((s.handedOver p f o old h held).scan (s.asked f o).rail).LimitLaws k := by
  have hu := hs.claim hadm hcov hdevice hheld hfree
  have hcommits := Record.isCommitting_of_isDeviceHeld hdevice
  have hr : held.rail = (s.asked f o).rail := by
    have := (hs.records old).rail o (State.covering_covers hcov)
    simpa [Record.onRail, hheld, State.asked] using this
  have hgone : ∀ r, (s.giveWay old held).rail r = if held.rail = r then
      { s.rail r with
        committed := (s.rail r).committed - held.current
        grantOrder := (s.rail r).grantOrder.erase old } else s.rail r := fun r => by
    rw [State.giveWay_rail hheld hcommits, State.withdraw_rail_of_committing hheld hcommits]
  have hcur : held.current ≤ (s.rail held.rail).committed := by
    have := hs.grants.current_le
      (hs.grants.mem_iff.2 ⟨hcommits, by simp [Record.onRail, hheld]⟩ :
        old ∈ (s.rail held.rail).grantOrder)
    simpa [Record.currentOr0, hheld] using this
  refine hu.waiting.scan_limitLaws ?_ (fun j hj => ?_) k
  · rw [State.handedOver, State.joinGrants, State.onRail_rail_same, State.setRecord_rail, hgone,
      if_pos hr]
    have hwithin := (hl (s.asked f o).rail).within
    rw [hr] at hcur
    rcases hfits with hle | hfits
    · change (s.rail (s.asked f o).rail).committed - held.current + (s.asked f o).current ≤
        (s.rail (s.asked f o).rail).limit
      omega
    · have hroom := Account.le_limit_of_room hwithin (State.fits_iff.1 hfits).1
      change (s.rail (s.asked f o).rail).committed - held.current + (s.asked f o).current ≤
        (s.rail (s.asked f o).rail).limit
      omega
  · refine (hl j).ofRail (s.giveWay_quiet old held).mode ?_ fun x hx => ?_
    · rw [State.handedOver, State.joinGrants, State.onRail_rail_ne _ _ hj, State.setRecord_rail,
        hgone, if_neg fun he : held.rail = j => hj (he.symm.trans hr)]
    · have hold : x ≠ old := hs.not_waiting hx (State.old_waits hdevice)
      have hnew : x ≠ h := by
        rcases State.giveWay_lowestFree hfree with rfl | hf
        · exact hold
        · exact hs.not_waiting hx (by rw [hf]; rfl)
      rw [State.handedOver_record, if_neg hnew.symm, State.giveWay_record_ne s held hold]

/-- Where every record is FREE nothing is committed and nobody waits. -/
theorem State.TableLaws.lists_of_free {s : State} (hs : s.TableLaws)
    (hf : ∀ k, s.record k = .free) (r : Rail) :
    (s.rail r).waiting = [] ∧ (s.rail r).grantOrder = [] ∧ (s.rail r).committed = 0 := by
  have hw : (s.rail r).waiting = [] := List.eq_nil_iff_forall_not_mem.2 fun x hx => by
    obtain ⟨c, hc⟩ := hs.waiting.mem_waits.1 hx
    rw [hf] at hc; cases hc
  have hg : (s.rail r).grantOrder = [] := List.eq_nil_iff_forall_not_mem.2 fun x hx => by
    obtain ⟨c, hc⟩ := hs.grants.mem_commits.1 hx
    rw [hf] at hc; cases hc
  exact ⟨hw, hg, by rw [hs.grants.committed_eq, hg]; rfl⟩

/-- A change of the limit leaves the laws: more committed than the limit is revoked, a raised limit
is scanned, and a lowered one leaves no more room (R36). -/
theorem State.TableLaws.limitChange_limitLaws {s u : State} (hu : u.TableLaws)
    (hmode : u.mode = s.mode) (hempty : s.EmptyOutsideService)
    (hrec : ∀ k, u.record k = s.record k) {r : Rail} (hother : ∀ k, k ≠ r → u.rail k = s.rail k)
    (hwait : (u.rail r).waiting = (s.rail r).waiting)
    (hcommitted : (u.rail r).committed = (s.rail r).committed)
    (hreserve : (u.rail r).reserve = (s.rail r).reserve) (hl : ∀ k, s.LimitLaws k) (k : Rail) :
    (u.limitChange r (s.rail r).limit).1.LimitLaws k := by
  have hrest : ∀ j, j ≠ r → u.LimitLaws j := fun j hj =>
    (hl j).ofRail hmode (hother j hj) fun x _ => by rw [hrec]
  obtain ⟨houtside, hrevoked, hraised, hstays⟩ := limitChangeActs u r (s.rail r).limit hu.grants
  by_cases hm : u.mode = .service
  · by_cases hover : (u.rail r).limit < (u.rail r).committed
    · rw [hrevoked hm hover]
      obtain ⟨ended, rest, -, hg, hwithin⟩ := hu.grants.revoke_endsAlong r
      refine ((hu.revoke r).waiting.scan_limitLaws ?_ (fun j hj => ?_) k).counted
      · exact hwithin.trans_eq (hg.tableOnly.limit r).symm
      · refine (hrest j hj).ofRail hg.tableOnly.mode (hg.rail_ne hj) fun x hx => ?_
        rw [hg.record_of_not_mem fun hin => ?_]
        have := Record.isWaiting_eq_false_of_isCommitting (hg.isCommitting hin)
        rw [(hu.waiting.mem_iff.1 hx).1] at this
        cases this
    · have hwithin := Nat.le_of_not_lt hover
      by_cases ho : (s.rail r).limit < (u.rail r).limit
      · rw [hraised hm hwithin ho]
        have hscan := hu.waiting.scan_limitLaws hwithin hrest k
        dsimp only
        split
        · exact hscan
        · exact hscan.counted
      · rw [hstays hm hwithin (Nat.le_of_not_lt ho)]
        by_cases hk : k = r
        · subst hk
          exact (hl k).mono hmode hwait (fun x _ => by rw [hrec])
            (Account.room_le (Nat.le_of_not_lt ho) hcommitted.ge hreserve) hwithin
        · exact hrest k hk
  · rw [houtside hm]
    have hf : ∀ k, u.record k = .free := fun j => by rw [hrec]; exact hempty (hmode ▸ hm) j
    exact ⟨by rw [(hu.lists_of_free hf k).2.2]; exact Nat.zero_le _, fun hserv => absurd hserv hm⟩

theorem State.TableLaws.restarted_limitLaws {s : State} (hs : s.TableLaws)
    (hcaps : s.CapsFit) (hl : ∀ k, s.LimitLaws k) (k : Rail) : s.restarted.LimitLaws k := by
  have hrail := hs.grants.restarted_rail k
  refine ⟨?_, fun _ h hh => by rw [hrail] at hh; cases hh⟩
  have hlimit : (s.rail k).limit ≤ (s.restarted.rail k).limit := by
    rw [hrail]
    have := hcaps k
    simp only [Account.limit, Account.ceiling]
    omega
  refine le_trans (le_trans ?_ (hl k).within) hlimit
  rw [hrail, hs.grants.committed_eq]
  exact (List.filter_sublist.map _).sum_le_sum fun _ _ => Nat.zero_le _

theorem State.Acts.limitLaws {s t : State} (hs : s.TableLaws) (hcaps : s.CapsFit)
    (hempty : s.EmptyOutsideService) (hl : ∀ k, s.LimitLaws k) (h : s.Acts t) (k : Rail) :
    t.LimitLaws k := by
  have hq := h.quiet
  obtain ⟨_, h⟩ := h
  cases h with
  | idle | recount | stage | fault => exact (hl k).keeps hq rfl fun _ => rfl
  | @grant p f o h hadm hcov hfits =>
    refine hs.commit_limitLaws hq (State.TableLaws.ofFree hadm.free).1 (fun j hj => ?_)
      (State.fits_iff.1 hfits).1 ⟨(s.rail (s.asked f o).rail).grantOrder ++ [h], ?_⟩ (fun j hj => ?_)
      hl k
    · rw [State.countChange_record, State.onChannel_record, State.joinGrants_record,
        State.setRecord_record_ne _ _ hj]
    · rw [State.countChange_rail, State.onChannel_rail, State.joinGrants, State.onRail_rail_same,
        State.setRecord_rail]
    · rw [State.countChange_rail, State.onChannel_rail, State.joinGrants,
        State.onRail_rail_ne _ _ hj, State.setRecord_rail]
  | wait hadm hcov hfits => exact (hs.wait_limitLaws hadm hfits _ hl k).counted
  | claim hadm hcov hdevice hheld hfits hfree =>
    exact (hs.claim_limitLaws hadm hcov hdevice hheld hfits hfree hl k).counted
  | release hb =>
    exact (hs.gone_scan_limitLaws (hs.freeRecord _) (s.freeRecord_quiet _).mode hb
      (fun j hj => by rw [State.freeRecord_record, if_neg hj.symm]) (s.freeRecord_rail _) hl
      k).counted
  | finish hb hended hfinal =>
    exact (hs.gone_scan_limitLaws (hs.endRecord _ hfinal) (s.endRecord_quiet _ _).mode hb
      (fun j hj => s.endRecord_record_ne _ hj) (s.endRecord_rail _ _) hl k).counted
  | renew =>
    exact (hl k).keeps hq rfl
      (State.setRecord_booking (fun _ => State.setRecord_record ..) (Record.renewed_keeps ..).booking)
  | @resizeWaiter _ h b x hb hw =>
    refine State.LimitLaws.counted ?_
    refine (hs.resizeWaiter hw x).waiting.scan_limitLaws (hl b.rail).within (fun j hj => ?_) k
    refine (hl j).ofRail rfl rfl fun y hy => ?_
    rw [State.setRecord_record_ne]
    rintro rfl
    obtain ⟨c, hc⟩ := hs.waiting.mem_waits.1 hy
    rw [Record.waits?_of_booking hb hw] at hc
    cases hc
    exact hj rfl
  | @resizeLower _ h b x hb hc hpos hx hx' =>
    have hnw : (s.record h).waits? = none :=
      Record.waits?_eq_none_iff.2 (Record.isWaiting_eq_false_of_isCommitting hc)
    have hle : b.current ≤ (s.rail b.rail).committed := by
      have hcur : (s.record h).currentOr0 = b.current := by simp [Record.currentOr0, hb]
      rw [← hcur]
      exact hs.grants.current_le (hs.grants.mem_iff.2 ⟨hc, by simp [Record.onRail, hb]⟩)
    refine State.LimitLaws.counted ?_
    refine (hs.resizeLease hb hc (v := x)
      (committed := (s.rail b.rail).committed - (b.current - x)) (by omega)
      rfl).waiting.scan_limitLaws ?_ (fun j hj => ?_) k
    · rw [State.onRail_rail_same, State.setRecord_rail]
      exact le_trans (Nat.sub_le _ _) (hl b.rail).within
    · refine (hl j).ofRail rfl (by rw [State.onRail_rail_ne _ _ hj, State.setRecord_rail])
        fun y hy => ?_
      rw [State.onRail_record, State.setRecord_record_ne _ _ (hs.not_waiting hy hnw)]
  | @resizeRaise _ h b x hb hc hx hx' hfits =>
    have hnw : (s.record h).waits? = none :=
      Record.waits?_eq_none_iff.2 (Record.isWaiting_eq_false_of_isCommitting hc)
    refine hs.commit_limitLaws hq hnw (fun j hj => ?_) (State.fits_iff.1 hfits).1
      ⟨(s.rail b.rail).grantOrder, ?_⟩ (fun j hj => ?_) hl k
    · rw [State.countChange_record, State.onRail_record, State.setRecord_record_ne _ _ hj]
    · rw [State.countChange_rail, State.onRail_rail_same, State.setRecord_rail]
    · rw [State.countChange_rail, State.onRail_rail_ne _ _ hj, State.setRecord_rail]
  | @ackEnded _ h hended =>
    have hidle : (s.record h).isWaiting = false ∧ (s.record h).isCommitting = false := by
      cases hx : s.record h <;> simp_all [Record.isEnded, Record.isWaiting, Record.isCommitting]
    refine (hl k).ofRail hq.mode ?_ fun y hy => ?_
    · rw [State.countChange_rail, State.freeRecord_rail, State.withdraw_of_idle hidle.1 hidle.2]
    · rw [State.countChange_record, State.freeRecord_record, if_neg]
      rintro rfl
      exact hs.not_waiting hy (Record.waits?_eq_none_iff.2 hidle.1) rfl
  | ackOther =>
    exact (hl k).keeps hq (by simp) (State.setRecord_booking
      (fun j => by rw [State.countChange_record, State.setRecord_record, State.dropNotice_record])
      (Record.withoutNotice_keeps _).booking)
  | holdGranted hx | holdTripped hx =>
    exact (hl k).keeps hq (by simp) (State.setRecord_booking
      (fun j => by rw [State.countChange_record, State.setRecord_record, State.postNotice_record])
      (by rw [hx]; rfl))
  | tripGranted hx =>
    exact (hl k).keeps hq (by simp [State.startRetry]) (State.setRecord_booking
      (fun j => by rw [State.countChange_record, State.setRecord_record, State.postNotice_record,
        State.startRetry_record])
      (by rw [hx]; rfl))
  | tripHeld hx =>
    exact (hl k).keeps hq rfl (State.setRecord_booking
      (fun j => by rw [State.countChange_record, State.setRecord_record, State.startRetry_record])
      (by rw [hx]; rfl))
  | restart =>
    exact (hl k).keeps hq rfl (State.setRecord_booking
      (fun j => by rw [State.countChange_record, State.onChannel_record, State.setRecord_record])
      (Record.restarted_keeps _).booking)
  | tick due =>
    have hrail : (((s.runCountdowns due.countdowns).runFilters due.filters).rail k) =
        if (s.runCountdowns due.countdowns).mode ≠ .loading ∧ due.filters.getLsbD k.val = true then
          (s.rail k).showCandidate else s.rail k := by
      rw [State.runFilters_rail, State.runCountdowns_rail]
    refine (hl k).congr hq.mode ?_ (fun j _ => ?_) ?_ ?_ ?_
    · rw [hrail]; split <;> rfl
    · rw [State.runFilters_record, State.runCountdowns_record]
      split
      · exact (Record.lowerCountdown_keeps _).booking
      · rfl
    · rw [hrail]; split <;> rfl
    · rw [hrail]; split <;> rfl
    · rw [hrail]; split <;> rfl
  | restartAll => exact hs.restarted_limitLaws hcaps hl k
  | @limit _ r g hg =>
    have hu : (s.onRail r g).TableLaws := hs.same (s.onRail_quiet _ _) (fun _ => rfl)
      (s.onRail_sameLists _ fun a => Account.ofInputs (hg a)) fun _ => rfl
    refine hu.limitChange_limitLaws (s := s) rfl hempty (fun _ => rfl)
      (fun j hj => State.onRail_rail_ne _ _ hj) ?_ ?_ ?_ hl k
    · rw [State.onRail_rail_same, hg]
    · rw [State.onRail_rail_same, hg]
    · rw [State.onRail_rail_same, hg]
  | @filter _ r g hg =>
    have hrail : (s.onRail r g).rail k = { s.rail k with
        candidate := ((s.onRail r g).rail k).candidate, present := ((s.onRail r g).rail k).present
        full := ((s.onRail r g).rail k).full } := by
      by_cases hk : k = r
      · subst hk; rw [State.onRail_rail_same]; exact hg _
      · rw [State.onRail_rail_ne _ _ hk]
    exact (hl k).congr rfl (by rw [hrail]) (fun _ _ => rfl) (by rw [hrail]; rfl) (by rw [hrail])
      (by rw [hrail])
  | retryTick =>
    exact (hl k).keeps hq (State.withChannels_rail ..) fun j => by rw [State.withChannels_record]
  | pins | capture | flip | copy | patience =>
    exact (hl k).keeps hq (State.onPort_rail ..) fun j =>
      congrArg Record.booking? (State.onPort_record ..)

/-! ## The laws of the part, together -/

/-- Every law of `Sound` but the store's, in the groups in which they are kept. -/
structure State.PartLaws (s : State) : Prop where
  table : s.TableLaws
  notices : s.NoticeLaws
  limits : ∀ r, s.LimitLaws r
  caps : s.CapsFit
  empty : s.EmptyOutsideService

theorem State.Sound.partLaws {s : State} (hs : s.Sound) : s.PartLaws where
  table := hs.tableLaws
  notices := ⟨hs.notices, hs.attn⟩
  limits r := ⟨hs.limits r, fun hm => hs.heads hm r⟩
  caps := hs.caps
  empty := hs.empty

theorem State.PartLaws.sound {s : State} (hs : s.PartLaws)
    (hstore : s.StoreExclusive) : s.Sound where
  waiting := hs.table.waiting
  grants := hs.table.grants
  notices := hs.notices.exact
  attn := hs.notices.attn
  fits h := (hs.table.records h).notice
  once := hs.table.drives.once
  rails h := (hs.table.records h).rail
  shapes n := (hs.table.channels n).1
  channels := hs.table.drives.channelsFollowRecords
  flags n := (hs.table.channels n).2
  barring h := (hs.table.records h).unbarred
  caps := hs.caps
  limits r := (hs.limits r).within
  heads hm r := (hs.limits r).head hm
  quotas := hs.table.quotas
  empty := hs.empty
  store := hstore

theorem State.Acts.partLaws {s t : State} (hs : s.PartLaws) (h : s.Acts t) : t.PartLaws where
  table := h.tableLaws hs.table
  notices := h.noticeLaws hs.notices
  limits := h.limitLaws hs.table hs.caps hs.empty hs.limits
  caps r := by
    obtain ⟨-, -, -, -, hcap⟩ := h.sameProfile r
    rcases hcap with hcap | hcap
    · rw [hcap]; exact hs.caps r
    · exact hcap
  empty hm := by
    rw [h.quiet.mode] at hm
    obtain ⟨w, h⟩ := h
    exact fun k => h.keepsFree (fun hservice => absurd hservice hm) (hs.empty hm k)

/-! ## A part without leases -/

/-- No record is taken, nothing is committed and no channel is driven. -/
structure State.Bare (s : State) : Prop where
  records : ∀ h, s.record h = .free
  rails : ∀ r, (s.rail r).waiting = [] ∧ (s.rail r).grantOrder = [] ∧ (s.rail r).committed = 0
    ∧ (s.rail r).cap ≤ 8191
  channels : ∀ n, (s.channel n).Lawful ∧ (s.channel n).state ≠ .on ∧ (s.channel n).state ≠ .retry

theorem State.PartLaws.bare {s : State} (hs : s.PartLaws) (hf : ∀ h, s.record h = .free) :
    s.Bare where
  records := hf
  rails r := by
    obtain ⟨hw, hg, hc⟩ := hs.table.lists_of_free hf r
    exact ⟨hw, hg, hc, hs.caps r⟩
  channels n := ⟨hs.table.channels n, hs.table.drives.undriven n fun h => by rw [hf]; rfl⟩

theorem State.Bare.partLaws {s : State} (hs : s.Bare) (hn : s.NoticeLaws) : s.PartLaws where
  table :=
    { waiting := fun r => by
        rw [(hs.rails r).1]
        exact ⟨List.nodup_nil, fun h => by rw [hs.records]; simp [Record.isWaiting], .nil⟩
      grants := fun r => by
        rw [(hs.rails r).2.1, (hs.rails r).2.2.1]
        exact ⟨List.nodup_nil, fun h => by rw [hs.records]; simp [Record.isCommitting], rfl⟩
      drives :=
        { once := fun h h' o hc => by rw [hs.records] at hc; cases hc
          driven := fun h n hc => by rw [hs.records] at hc; cases hc
          undriven := fun n _ => (hs.channels n).2 }
      channels := fun n => (hs.channels n).1
      records := fun h => by rw [hs.records]; exact .free s
      quotas := fun p => by
        have hnone : s.counted p = 0 := List.countP_eq_zero.2 fun h _ => by
          rw [hs.records]; simp [Record.countsAgainst, Record.owedParty?, Record.holder?,
            Record.notice?]
        rw [hnone]; exact Nat.zero_le _ }
  notices := hn
  limits r := ⟨by rw [(hs.rails r).2.2.1]; exact Nat.zero_le _,
    fun _ h hh => by rw [(hs.rails r).1] at hh; cases hh⟩
  caps r := (hs.rails r).2.2.2
  empty _ := hs.records

/-- Where the records, the accounts and the channels are the same, the part stays without leases. -/
theorem State.Bare.same {s t : State} (hs : s.Bare) (hrec : ∀ h, t.record h = s.record h)
    (hrail : ∀ r, t.rail r = s.rail r) (hchan : ∀ n, t.channel n = s.channel n) : t.Bare where
  records h := by rw [hrec]; exact hs.records h
  rails r := by rw [hrail]; exact hs.rails r
  channels n := by rw [hchan]; exact hs.channels n

theorem Channel.judgeBarred_undriven (c : Channel) (barred : Bool) :
    (c.judgeBarred barred).Lawful ∧ (c.judgeBarred barred).state ≠ .on
      ∧ (c.judgeBarred barred).state ≠ .retry :=
  ⟨.judgeBarred c barred, by cases barred <;> simp [Channel.judgeBarred]⟩

/-- The acts of the store are done without leases (R143, R149). -/
theorem State.StoreActs.unleased {s t : State} (hs : s.PartLaws) (hx : s.StoreExclusive)
    (h : s.StoreActs t) (k : Handle) : s.record k = .free := by
  have outside : s.mode ≠ .service → s.record k = .free := fun hm => hs.empty hm k
  have loading : s.mode = .loading → s.record k = .free := fun hm => outside (by rw [hm]; decide)
  have setup : s.mode = .setup → s.record k = .free := fun hm => outside (by rw [hm]; decide)
  obtain ⟨_, h⟩ := h
  cases h with
  | write hmode | reload hmode | openPart hmode => exact setup hmode
  | closePart _ hfree => exact hfree k
  | readRow hl => exact loading (hx.loadInLoading (by rw [hl]; rfl))
  | endLoad hl => exact loading (hx.loadInLoading (by rw [hl]; rfl))
  | complete hw => exact setup (hx.writeInSetup (by rw [hw]; rfl))
  | resetEnd hin => exact loading (hx.resetLoads hin).1

theorem State.StoreActs.bare {s t : State} (hs : s.Bare) (h : s.StoreActs t) : t.Bare := by
  have hrec := h.keepsTable.records
  obtain ⟨_, h⟩ := h
  cases h with
  | write | reload =>
    exact hs.same hrec (fun r => State.onPort_rail ..) fun n => State.onPort_channel ..
  | openPart | readRow | resetEnd => exact hs.same hrec (fun _ => rfl) fun _ => rfl
  | closePart => exact hs.same hrec (fun _ => rfl) fun _ => rfl
  | endLoad =>
    refine ⟨fun h => (hrec h).trans (hs.records h), fun r => ?_, fun n => ?_⟩
    · rw [State.endLoad_rail]; exact hs.rails r
    · rw [State.endLoad_channel]; exact Channel.judgeBarred_undriven _ _
  | complete =>
    refine ⟨fun h => (hrec h).trans (hs.records h), fun r => ?_, fun n => ?_⟩
    · rw [State.completed_rail]
      split
      · rw [Account.judgeCandidate_eq]
        simp only [Account.judgeCandidate_cap]
        exact hs.rails r
      · exact hs.rails r
    · rw [State.completed_channel]
      split
      · exact Channel.judgeBarred_undriven _ _
      · exact hs.channels n

theorem Channel.coldReset_undriven (faultLow : Bool) :
    (Channel.coldReset faultLow).Lawful ∧ (Channel.coldReset faultLow).state ≠ .on
      ∧ (Channel.coldReset faultLow).state ≠ .retry :=
  ⟨.ofOff rfl rfl rfl rfl rfl, by simp [Channel.coldReset], by simp [Channel.coldReset]⟩

theorem State.coldReset_bare (s : State) (cause : ResetCause) : (s.coldReset cause).Bare where
  records := s.coldReset_record cause
  rails r := by
    have hrail : (s.coldReset cause).rail r =
        Account.coldReset (s.rail r).present (s.rail r).full := s.enterColdReset_rail r
    rw [hrail]; exact ⟨rfl, rfl, rfl, le_refl 8191⟩
  channels n := by
    have hchan : (s.coldReset cause).channel n = Channel.coldReset (s.channel n).faultLow :=
      s.enterColdReset_channel n
    rw [hchan]; exact Channel.coldReset_undriven _

/-! ## Every step -/

/-- What the laws do not read may be written. -/
theorem State.PartLaws.congr {s t : State} (hs : s.PartLaws) (hq : s.Quiet t)
    (hrec : ∀ k, t.record k = s.record k) (hrail : ∀ r, t.rail r = s.rail r)
    (hchan : ∀ n, t.channel n = s.channel n) (hn : t.NoticeLaws) : t.PartLaws where
  table := hs.table.same hq hrec (.ofRail hrail) hchan
  notices := hn
  limits r := (hs.limits r).keeps hq (hrail r) fun k => by rw [hrec]
  caps r := by rw [hrail]; exact hs.caps r
  empty hm k := by rw [hrec]; exact hs.empty (hq.mode ▸ hm) k

theorem State.Sound.ofQueue {s : State} (hs : s.Sound) (rest : List Instr) :
    { s with pending := rest }.Sound := by
  obtain ⟨h1, h2, h3, h4, h5, h6, h7, h8, h9, h10, h11, h12, h13, h14, h15, h16, h17⟩ := hs
  exact ⟨h1, h2, fun p => by cases p; exacts [h3 .a, h3 .b], fun p => by cases p; exacts [h4 .a, h4 .b],
    h5, h6, h7, h8, h9, h10, h11, h12, h13, h14, fun p => by cases p; exacts [h15 .a, h15 .b], h16,
    ⟨h17.writeInSetup, h17.loadInLoading, h17.loadingLoads, h17.resetLoads,
      fun p => by cases p; exacts [h17.slowWrite .a, h17.slowWrite .b],
      fun p => by cases p; exacts [h17.slowReload .a, h17.slowReload .b]⟩⟩

theorem State.Acts.sound {s t : State} (hs : s.Sound) (h : s.Acts t) : t.Sound :=
  (h.partLaws hs.partLaws).sound (h.quiet.toKeepsStore.storeExclusive hs.store)

theorem State.StoreActs.sound {s t : State} (hs : s.Sound) (h : s.StoreActs t) : t.Sound :=
  ((h.bare (hs.partLaws.bare (h.unleased hs.partLaws hs.store))).partLaws
    (h.noticeLaws hs.partLaws.notices)).sound (h.storeExclusive hs.store)

theorem State.coldReset_sound (s : State) (cause : ResetCause) : (s.coldReset cause).Sound :=
  ((s.coldReset_bare cause).partLaws (s.coldReset_noticeLaws cause)).sound
    (s.coldReset_storeExclusive cause)

theorem State.Sound.endFrame {s : State} (hs : s.Sound) (p : Port) (reg : ReplyRegister)
    (last : Option Bool) : (s.endFrame p reg last).Sound :=
  (hs.partLaws.congr (s.endFrame_quiet p reg last) (fun _ => State.onPort_record ..)
    (fun _ => State.onPort_rail ..) (fun _ => State.onPort_channel ..)
    (hs.partLaws.notices.onPort p (fun _ => rfl) fun _ => rfl)).sound
    ((s.endFrame_quiet p reg last).toKeepsStore.storeExclusive hs.store)

/-- Settles O5: the acts of the Lease Table keep the laws of its lists, its channels and its limits;
those of the store are done where nothing is leased, and cold reset leaves nothing leased. -/
theorem stepKeepsSound : Obligations.StepKeepsSound := fun _ _ hs ht =>
  step_keeps (P := State.Sound) (fun rest h => h.ofQueue rest) (fun h ha => ha.sound h)
    (fun h ha => ha.sound h) (fun cause _ => State.coldReset_sound _ cause)
    (fun p reg last h => h.endFrame p reg last) hs ht

end Sys2Proof.Machine
end

section
/-! PROOFS. The ranges of the numbers: the records, the timers, the ports and the profile. -/

namespace Sys2Proof.Machine

/-! ## Records (R1) -/

theorem Record.InRange.free : Record.InRange .free := by
  constructor <;> simp [Record.booking?, Record.term?, Record.countdown?, Record.retries?]

/-- A record whose numbers are those of one in range, or lower, is in range. -/
theorem Record.InRange.sub {x y : Record} (hx : x.InRange) (hb : ∀ b ∈ y.booking?, b ∈ x.booking?)
    (ht : ∀ t ∈ y.term?, t ∈ x.term?)
    (hd : ∀ d ∈ y.countdown?, ∃ e, (e ∈ x.countdown? ∨ e ∈ x.term?) ∧ d ≤ e)
    (hk : ∀ k ∈ y.retries?, ∃ j ∈ x.retries?, k ≤ j) : y.InRange where
  current b h := hx.current b (hb b h)
  term t h := hx.term t (ht t h)
  countdown d h := by
    obtain ⟨e, he, hle⟩ := hd d h
    rcases he with he | he
    · exact hle.trans (hx.countdown e he)
    · exact hle.trans (hx.term e he).2
  retries k h := by
    obtain ⟨j, hj, hle⟩ := hk k h
    exact hle.trans (hx.retries j hj)

/-- A record with no numbers but those of a booking in range. -/
theorem Record.InRange.ofBooking {x y : Record} (hx : x.InRange) (hb : y.booking? = x.booking?)
    (ht : y.term? = none) (hd : y.countdown? = none) (hk : ∀ k ∈ y.retries?, k ∈ x.retries?) :
    y.InRange :=
  hx.sub (fun b h => hb ▸ h) (fun t h => by rw [ht] at h; cases h)
    (fun d h => by rw [hd] at h; cases h) fun k h => ⟨k, hk k h, le_rfl⟩

theorem Record.InRange.lowerCountdown {x : Record} (hx : x.InRange) : x.lowerCountdown.InRange := by
  refine hx.sub ?_ ?_ ?_ ?_ <;>
    cases x <;> simp [Record.lowerCountdown, Record.booking?, Record.term?, Record.countdown?,
      Record.retries?]

theorem Record.InRange.withoutNotice {x : Record} (hx : x.InRange) : x.withoutNotice.InRange := by
  refine hx.sub ?_ ?_ ?_ ?_ <;>
    cases x <;> simp [Record.withoutNotice, Record.booking?, Record.term?, Record.countdown?,
      Record.retries?]

theorem Record.InRange.restarted {x : Record} (hx : x.InRange) : x.restarted.InRange := by
  refine hx.sub ?_ ?_ ?_ ?_ <;>
    cases x <;> simp [Record.restarted, Record.booking?, Record.term?, Record.countdown?,
      Record.retries?]

theorem Record.InRange.kept {x : Record} (hx : x.InRange) (shadow : Profile) :
    (shadow.keptRecord x).InRange := by
  cases x with
  | free | waiting | ended => exact .free
  | deviceTripped | held => exact hx.ofBooking rfl rfl rfl fun _ => id
  | granted | tripped =>
    simp only [Profile.keptRecord]
    split
    · exact hx.ofBooking rfl rfl rfl fun _ => id
    · exact .free

theorem Record.InRange.endedAs {x : Record} (hx : x.InRange) (reason : Reason) :
    (x.endedAs reason).InRange := by
  unfold Record.endedAs
  split
  · next hb _ => exact hx.ofBooking (by rw [hb]; rfl) rfl rfl fun k h => nomatch h
  · exact .free

theorem Record.InRange.withCurrent {x : Record} (hx : x.InRange) {v : Nat} (hpos : 1 ≤ v)
    (hv : v ≤ 8191) : (x.withCurrent v).InRange where
  current b hb := by
    rw [Record.withCurrent_booking] at hb
    obtain ⟨b', -, rfl⟩ := Option.map_eq_some_iff.1 hb
    exact ⟨hpos, hv⟩
  term t ht := hx.term t (by cases x <;> exact ht)
  countdown d hd := hx.countdown d (by cases x <;> exact hd)
  retries k hk := hx.retries k (by cases x <;> exact hk)

theorem Record.InRange.renewed {x : Record} (hx : x.InRange) {term countdown retries : Nat}
    (ht : x.term? = some term ∨ 1 ≤ term ∧ term ≤ 8191) (hd : countdown ≤ 8191)
    (hk : retries ≤ 7) : (x.renewed term countdown retries).InRange := by
  have hterm : 1 ≤ term ∧ term ≤ 8191 := ht.elim (fun h => hx.term term h) id
  obtain ⟨hcur, hterms, hdown, hret⟩ := hx
  cases x <;> constructor <;>
    simp_all [Record.renewed, Record.booking?, Record.term?, Record.countdown?, Record.retries?]

/-- The record a grant writes is in range, with the currents, terms and retries it is given. -/
theorem Record.inRange_granted {b : Booking} {c : Client} {term retries : Nat} {n : Option Notice}
    (hb : 1 ≤ b.current ∧ b.current ≤ 8191) (ht : 1 ≤ term ∧ term ≤ 8191) (hk : retries ≤ 7) :
    (Record.granted b c term term retries n).InRange := by
  constructor <;> simp [Record.booking?, Record.term?, Record.countdown?, Record.retries?] <;> omega

theorem Record.inRange_tripped {b : Booking} {c : Client} {term retries : Nat} {n : Option Notice}
    (hb : 1 ≤ b.current ∧ b.current ≤ 8191) (ht : 1 ≤ term ∧ term ≤ 8191) (hk : retries ≤ 7) :
    (Record.tripped b c term term retries n).InRange := by
  constructor <;> simp [Record.booking?, Record.term?, Record.countdown?, Record.retries?] <;> omega

theorem Record.inRange_waiting {b : Booking} {c : Client} {term patience : Nat}
    (hb : 1 ≤ b.current ∧ b.current ≤ 8191) (ht : 1 ≤ term ∧ term ≤ 8191)
    (hp : patience ≤ 8191) : (Record.waiting b c term patience).InRange := by
  constructor <;> simp [Record.booking?, Record.term?, Record.countdown?, Record.retries?] <;> omega

/-- Every record is in range, and so is every retry allowance a grant may write. -/
structure State.RecordsFit (s : State) : Prop where
  records : ∀ h, (s.record h).InRange
  allowances : ∀ n, (s.outputRow n).retryAllowance ≤ 7

theorem State.RecordsFit.congr {s t : State} (hs : s.RecordsFit)
    (hrec : ∀ h, (s.record h).InRange → (t.record h).InRange)
    (hrow : ∀ n, t.outputRow n = s.outputRow n) : t.RecordsFit :=
  ⟨fun h => hrec h (hs.records h), fun n => by rw [hrow]; exact hs.allowances n⟩

/-- One record written in range. -/
theorem State.RecordsFit.write {s t : State} (hs : s.RecordsFit) (hq : s.Quiet t) {h : Handle}
    {y : Record} (hrec : ∀ k, t.record k = if h = k then y else s.record k) (hy : y.InRange) :
    t.RecordsFit :=
  hs.congr (fun k hk => by rw [hrec]; split <;> assumption) hq.outputRow

theorem State.RecordsFit.scan {s : State} (hs : s.RecordsFit) (r : Rail) :
    (s.scan r).RecordsFit := by
  refine State.scan_keeps (fun {s h b c term patience} hs hx _ => ?_) hs
  refine hs.congr (fun k hk => ?_) fun n => State.grantWaiter_outputRow ..
  rw [State.grantWaiter_record]
  split
  · have hxr := hs.records h
    rw [hx] at hxr
    exact Record.inRange_granted (hxr.current b rfl) (hxr.term term rfl) (hs.allowances _)
  · exact hk

theorem State.RecordsFit.endRecord {s : State} (hs : s.RecordsFit) (h : Handle) (reason : Reason) :
    (s.endRecord h reason).RecordsFit :=
  hs.write (s.endRecord_quiet h reason) (fun k => s.endRecord_record h k reason)
    ((hs.records h).endedAs reason)

theorem State.RecordsFit.freeRecord {s : State} (hs : s.RecordsFit) (h : Handle) :
    (s.freeRecord h).RecordsFit :=
  hs.write (s.freeRecord_quiet h) (fun k => s.freeRecord_record h k) .free

theorem State.RecordsFit.counted {s : State} (hs : s.RecordsFit) : s.countChange.RecordsFit :=
  ⟨hs.records, hs.allowances⟩

theorem State.RecordsFit.limitChange {s : State} (hs : s.RecordsFit) (r : Rail) (old : Nat) :
    (s.limitChange r old).1.RecordsFit := by
  obtain ⟨u, hu, heq⟩ := s.limitChange_cases r old
  have hfit : u.RecordsFit := by
    rcases hu with rfl | rfl | rfl
    · exact hs
    · exact hs.scan r
    · exact (State.revoke_keeps (fun k h => h.endRecord k _) r hs).scan r
  rcases heq with heq | heq
  · rw [heq]; exact hfit
  · rw [heq]; exact hfit.counted

theorem State.Admits.asked_inRange {s : State} {p : Port} {f : Fields} {o : Output} {h : Handle}
    (hadm : s.Admits p f o h) :
    (1 ≤ (s.asked f o).current ∧ (s.asked f o).current ≤ 8191)
      ∧ 1 ≤ f.valueB.toNat ∧ f.valueB.toNat ≤ 8191 :=
  ⟨⟨hadm.current, valueA_le f⟩, hadm.term, valueB_le f⟩

theorem State.Acts.recordsFit {s t : State} (hs : s.RecordsFit)
    (hp : ∀ p, (s.port p).patience ≤ 8191) (h : s.Acts t) : t.RecordsFit := by
  have hq := h.quiet
  obtain ⟨_, h⟩ := h
  cases h with
  | idle | recount | stage | fault | filter => exact hs.congr (fun _ => id) hq.outputRow
  | @grant p f o h hadm =>
    exact hs.write hq (y := s.grantedRecord p f (s.asked f o))
      (fun k => by rw [State.countChange_record, State.onChannel_record,
      State.joinGrants_record, State.setRecord_record])
      (Record.inRange_granted hadm.asked_inRange.1 hadm.asked_inRange.2 (hs.allowances _))
  | @wait p f o h hadm =>
    exact hs.write hq (y := .waiting (s.asked f o) (clientOf p f) f.valueB.toNat
      (s.port p).patience) (fun k => by rw [State.countChange_record, State.setRecord_record,
      State.enterList_record])
      (Record.inRange_waiting hadm.asked_inRange.1 hadm.asked_inRange.2 (hp _))
  | @claim p f o old h0 h held hadm hcov hdevice hheld hfits hfree =>
    have hgone : (s.giveWay old held).RecordsFit := by
      refine hs.congr (fun k hk => ?_) (s.giveWay_quiet old held).outputRow
      by_cases ho : k = old
      · subst ho
        rcases (State.giveWay_record_same held hdevice).1 with hg | ⟨n, -, hg⟩
        · rw [hg]; exact .free
        · rw [hg]; exact hk.ofBooking hheld.symm rfl rfl fun k h => nomatch h
      · rw [State.giveWay_record_ne s held ho]; exact hk
    refine (State.RecordsFit.scan (hgone.write ((State.setRecord_quiet _ _ _).trans
      (State.joinGrants_quiet _ _ _)) (fun k => by rw [State.joinGrants_record,
        State.setRecord_record]) ?_) _).counted
    split
    · exact Record.inRange_tripped hadm.asked_inRange.1 hadm.asked_inRange.2 (hs.allowances _)
    · exact Record.inRange_granted hadm.asked_inRange.1 hadm.asked_inRange.2 (hs.allowances _)
  | release => exact ((hs.freeRecord _).scan _).counted
  | finish => exact ((hs.endRecord _ _).scan _).counted
  | @renew _ h term countdown retries hterm hcount hretries =>
    obtain ⟨o, rfl⟩ := hretries
    refine hs.write hq (fun k => State.setRecord_record ..)
      ((hs.records h).renewed hterm ?_ (hs.allowances o))
    rcases hcount with rfl | ⟨p, rfl⟩
    · exact hterm.elim (fun ht => ((hs.records h).term _ ht).2) fun ht => ht.2
    · exact hp p
  | @resizeWaiter _ h b x hb hw hpos hx =>
    exact (State.RecordsFit.scan (hs.write (s.setRecord_quiet _ _) (fun k =>
      State.setRecord_record ..) ((hs.records h).withCurrent hpos hx)) _).counted
  | @resizeLower _ h b x hb hc hpos hx hx' =>
    exact (State.RecordsFit.scan (hs.write ((s.setRecord_quiet _ _).trans (State.onRail_quiet _ _ _))
      (fun k => by rw [State.onRail_record, State.setRecord_record])
      ((hs.records h).withCurrent hpos hx')) _).counted
  | @resizeRaise _ h b x hb hc hx hx' =>
    exact hs.write hq (fun k => by rw [State.countChange_record, State.onRail_record,
      State.setRecord_record]) ((hs.records h).withCurrent (by omega) hx')
  | ackEnded => exact (hs.freeRecord _).counted
  | ackOther =>
    exact hs.write hq (fun k => by rw [State.countChange_record, State.setRecord_record,
      State.dropNotice_record]) (hs.records _).withoutNotice
  | @holdGranted _ h b c term k n hx =>
    have hxr := hs.records h
    rw [hx] at hxr
    exact hs.write hq (y := .held b k (some ⟨.lapsedHeld, c⟩)) (fun k => by
      rw [State.countChange_record, State.setRecord_record, State.postNotice_record])
      (hxr.ofBooking rfl rfl rfl fun _ => id)
  | @holdTripped _ h b c term k n hx =>
    have hxr := hs.records h
    rw [hx] at hxr
    exact hs.write hq (y := .deviceTripped b k (some ⟨.lapsedHeld, c⟩))
      (fun k => by rw [State.countChange_record, State.setRecord_record,
      State.postNotice_record]) (hxr.ofBooking rfl rfl rfl fun _ => id)
  | @tripGranted _ h b c term d k n hx =>
    have hxr := hs.records h
    rw [hx] at hxr
    refine hs.write hq (y := .tripped b c term d k (some ⟨.tripped, c⟩)) (fun k => by
      rw [State.countChange_record, State.setRecord_record, State.postNotice_record,
        State.startRetry_record])
      (hxr.sub (fun _ => id) (fun _ => id) (fun d hd => ⟨d, .inl hd, le_rfl⟩) fun j hj => ?_)
    cases hj
    exact ⟨k + 1, rfl, Nat.le_succ k⟩
  | @tripHeld _ h b k n hx =>
    have hxr := hs.records h
    rw [hx] at hxr
    refine hs.write hq (y := .deviceTripped b k n) (fun k => by
      rw [State.countChange_record, State.setRecord_record, State.startRetry_record])
      (hxr.sub (fun _ => id) (fun _ => id) (fun d hd => ⟨d, .inl hd, le_rfl⟩) fun j hj => ?_)
    cases hj
    exact ⟨k + 1, rfl, Nat.le_succ k⟩
  | restart =>
    exact hs.write hq (fun k => by rw [State.countChange_record, State.onChannel_record,
      State.setRecord_record]) (hs.records _).restarted
  | tick due =>
    refine hs.congr (fun k hk => ?_) hq.outputRow
    rw [State.runFilters_record, State.runCountdowns_record]
    split
    · exact hk.lowerCountdown
    · exact hk
  | restartAll =>
    refine hs.congr (fun k hk => ?_) hq.outputRow
    rw [State.restarted_record]
    exact hk.kept _
  | limit =>
    exact (hs.congr (t := s.onRail _ _) (fun _ => id) fun _ => rfl).limitChange _ _
  | retryTick =>
    exact hs.congr (fun k hk => by rw [State.withChannels_record]; exact hk) hq.outputRow
  | pins => exact hs.congr (fun k hk => (State.onPort_record s _ _ k).symm ▸ hk) hq.outputRow
  | capture | flip | copy | patience =>
    exact hs.congr (fun k hk => by rw [State.onPort_record]; exact hk) hq.outputRow

/-! ## Retry timers (R86) -/

/-- Every retry timer is in range, and so is every delay a trip may start (R90). -/
structure State.TimersFit (s : State) : Prop where
  timers : ∀ n, ∀ k ∈ (s.channel n).retryTimer, k ≤ 255
  delays : ∀ n, (s.outputRow n).retryDelay ≤ 255

theorem State.TimersFit.congr {s t : State} (hs : s.TimersFit) (hq : s.Quiet t)
    (hchan : ∀ n, ∀ k ∈ (t.channel n).retryTimer, (∃ j ∈ (s.channel n).retryTimer, k ≤ j) ∨ k ≤ 255) :
    t.TimersFit where
  timers n k hk := by
    rcases hchan n k hk with ⟨j, hj, hle⟩ | hle
    · exact hle.trans (hs.timers n j hj)
    · exact hle
  delays n := by rw [hq.outputRow]; exact hs.delays n

theorem State.TimersFit.same {s t : State} (hs : s.TimersFit) (hq : s.Quiet t)
    (hchan : ∀ n, t.channel n = s.channel n) : t.TimersFit :=
  hs.congr hq fun n k hk => .inl ⟨k, by rwa [hchan] at hk, le_rfl⟩

theorem Channel.turnOff_retryTimer {c : Channel} {k : Nat} (h : k ∈ c.turnOff.retryTimer) :
    k ∈ c.retryTimer := by
  unfold Channel.turnOff at h
  split at h
  · cases h
  · cases h
  · exact h
  · exact h

theorem State.TimersFit.off {s t : State} (hs : s.TimersFit) (hq : s.Quiet t)
    (hchan : ∀ n, t.channel n = (s.channel n).turnOff ∨ t.channel n = s.channel n) :
    t.TimersFit := by
  refine hs.congr hq fun n k hk => .inl ⟨k, ?_, le_rfl⟩
  rcases hchan n with h | h
  · rw [h] at hk; exact Channel.turnOff_retryTimer hk
  · rwa [h] at hk

/-- One channel written with its timer stopped or in range. -/
theorem State.TimersFit.onChannel {s t : State} (hs : s.TimersFit) (hq : s.Quiet t) {o : Output}
    {g : Channel → Channel} (hchan : ∀ n, t.channel n = (s.onChannel o g).channel n)
    (hg : ∀ k ∈ (g (s.channel o)).retryTimer, k ∈ (s.channel o).retryTimer ∨ k ≤ 255) :
    t.TimersFit := by
  refine hs.congr hq fun n k hk => ?_
  rw [hchan, State.onChannel_channel] at hk
  split at hk
  · next he =>
    subst he
    exact (hg k hk).imp (fun h => ⟨k, h, le_rfl⟩) id
  · exact .inl ⟨k, hk, le_rfl⟩

theorem State.TimersFit.scan {s : State} (hs : s.TimersFit) (r : Rail) : (s.scan r).TimersFit := by
  refine State.scan_keeps (fun {s h b c term patience} hs hx _ => ?_) hs
  refine hs.congr ((s.grantWaiter_tableOnly h b c term).quiet (s.grantWaiter_sameBarred h b c term))
    fun n k hk => ?_
  rw [State.grantWaiter_channel] at hk
  split at hk
  · cases hk
  · exact .inl ⟨k, hk, le_rfl⟩

theorem State.TimersFit.endRecord {s : State} (hs : s.TimersFit) (h : Handle) (reason : Reason) :
    (s.endRecord h reason).TimersFit :=
  hs.off (s.endRecord_quiet h reason) fun n => by
    rw [State.endRecord_channel]; split
    · exact .inl rfl
    · exact .inr rfl

theorem State.TimersFit.freeRecord {s : State} (hs : s.TimersFit) (h : Handle) :
    (s.freeRecord h).TimersFit :=
  hs.off (s.freeRecord_quiet h) fun n => by
    rw [State.freeRecord_channel]; split
    · exact .inl rfl
    · exact .inr rfl

theorem State.TimersFit.counted {s : State} (hs : s.TimersFit) : s.countChange.TimersFit :=
  ⟨hs.timers, hs.delays⟩

theorem State.TimersFit.limitChange {s : State} (hs : s.TimersFit) (r : Rail) (old : Nat) :
    (s.limitChange r old).1.TimersFit := by
  obtain ⟨u, hu, heq⟩ := s.limitChange_cases r old
  have hfit : u.TimersFit := by
    rcases hu with rfl | rfl | rfl
    · exact hs
    · exact hs.scan r
    · exact (State.revoke_keeps (fun k h => h.endRecord k _) r hs).scan r
  rcases heq with heq | heq
  · rw [heq]; exact hfit
  · rw [heq]; exact hfit.counted

theorem State.Acts.timersFit {s t : State} (hs : s.TimersFit) (h : s.Acts t) : t.TimersFit := by
  have hq := h.quiet
  obtain ⟨_, h⟩ := h
  cases h with
  | idle | recount | stage | filter | renew | wait | resizeRaise =>
    exact hs.same hq fun _ => rfl
  | grant => exact hs.onChannel hq (fun _ => rfl) fun k hk => nomatch hk
  | claim =>
    refine (State.TimersFit.scan (hs.same (((s.giveWay_quiet _ _).trans
      (State.setRecord_quiet _ _ _)).trans (State.joinGrants_quiet _ _ _)) fun n => ?_) _).counted
    rw [State.joinGrants_channel, State.setRecord_channel, State.giveWay_channel]
  | release => exact ((hs.freeRecord _).scan _).counted
  | finish => exact ((hs.endRecord _ _).scan _).counted
  | resizeWaiter =>
    exact (State.TimersFit.scan (hs.same (s.setRecord_quiet _ _) fun _ => rfl) _).counted
  | resizeLower =>
    exact (State.TimersFit.scan (hs.same ((s.setRecord_quiet _ _).trans (State.onRail_quiet _ _ _))
      fun _ => rfl) _).counted
  | ackEnded => exact (hs.freeRecord _).counted
  | ackOther | holdGranted | holdTripped => exact hs.same hq fun n => by simp
  | @tripGranted _ h b c term d k n hx =>
    refine hs.onChannel hq (o := b.output) (g := fun c =>
      c.startRetry (s.outputRow b.output).retryDelay) (fun n => by simp; rfl) fun j hj => ?_
    cases hj
    exact .inr (hs.delays _)
  | @tripHeld _ h b k n hx =>
    refine hs.onChannel hq (o := b.output) (g := fun c =>
      c.startRetry (s.outputRow b.output).retryDelay) (fun n => rfl) fun j hj => ?_
    cases hj
    exact .inr (hs.delays _)
  | restart => exact hs.onChannel hq (fun _ => rfl) fun k hk => nomatch hk
  | tick due => exact hs.same hq fun n => by simp
  | restartAll =>
    refine hs.off hq fun n => ?_
    rw [State.restarted_channel]
    split
    · exact .inl rfl
    · exact .inr rfl
  | limit =>
    exact (hs.same (t := s.onRail _ _) (s.onRail_quiet _ _) fun _ => rfl).limitChange _ _
  | fault hg =>
    exact hs.onChannel hq (fun _ => rfl) fun k hk => .inl (by rw [hg] at hk; exact hk)
  | retryTick due =>
    have hlower : ∀ n k, k ∈ ((Vector.ofFn (fun n : Output =>
        if due.getLsbD n.val then (s.channel n).lowerTimer else s.channel n)).get n).retryTimer →
        ∃ j ∈ (s.channel n).retryTimer, k ≤ j := fun n k hk => by
      rw [vector_get_ofFn] at hk
      split at hk
      · obtain ⟨j, hj, rfl⟩ := Option.map_eq_some_iff.1 hk
        exact ⟨j, hj, Nat.sub_le _ _⟩
      · exact ⟨k, hk, le_rfl⟩
    exact hs.congr hq fun n k hk => .inl (hlower n k hk)
  | pins => exact hs.same hq fun n => State.onPort_channel ..
  | capture | flip | copy | patience => exact hs.same hq fun n => State.onPort_channel ..

end Sys2Proof.Machine
end

section
/-! PROOFS. The ranges of the numbers, continued: the buffers and the patience of the ports, the
accounts, the rows of the profile, and the numbers of the part together. -/

namespace Sys2Proof.Machine

/-! ## Rows (Table 9-1) -/

/-- Every row of the profile is in range. -/
def Profile.InRange (f : Profile) : Prop := ∀ i, (f.row i).InRange

theorem Profile.InRange.setOutput {f : Profile} (hf : f.InRange) (n : Output) {row : Row OutputRow}
    (hrow : (RowWrite.output n row.vals).InRange) : (f.setOutput n row).InRange := by
  intro i
  cases i with
  | output m =>
    simp only [Profile.row, Profile.setOutput, vector_get_set]
    split
    · exact hrow
    · exact hf (.output m)
  | rail r => exact hf (.rail r)
  | port p => cases p <;> exact hf (.port _)

theorem Profile.InRange.setRail {f : Profile} (hf : f.InRange) (r : Rail) {row : Row RailRow}
    (hrow : (RowWrite.rail r row.vals).InRange) : (f.setRail r row).InRange := by
  intro i
  cases i with
  | output n => exact hf (.output n)
  | rail k =>
    simp only [Profile.row, Profile.setRail, vector_get_set]
    split
    · exact hrow
    · exact hf (.rail k)
  | port p => cases p <;> exact hf (.port _)

theorem Profile.InRange.setPort {f : Profile} (hf : f.InRange) (p : Port) {row : Row PortRow}
    (hrow : (RowWrite.port p row.vals).InRange) : (f.setPort p row).InRange := by
  intro i
  cases i with
  | output n => cases p <;> exact hf (.output n)
  | rail r => cases p <;> exact hf (.rail r)
  | port q =>
    rw [Profile.row, Profile.setPort_port]
    split
    · exact hrow
    · exact hf (.port q)

theorem Profile.InRange.write {f : Profile} (hf : f.InRange) {w : RowWrite} (hw : w.InRange) :
    (f.write w).InRange := by
  cases w with
  | output n v => exact hf.setOutput n hw
  | rail r v => exact hf.setRail r hw
  | port p v => exact hf.setPort p hw

/-- The defaults of a BAD row are in range (R128). -/
theorem Profile.InRange.spoil {f : Profile} (hf : f.InRange) (i : RowId) : (f.spoil i).InRange := by
  cases i with
  | output n => exact hf.setOutput n (by simp [RowWrite.InRange, OutputRow.default])
  | rail r => exact hf.setRail r (by simp [RowWrite.InRange, RailRow.default])
  | port p =>
    exact hf.setPort p (by simp [RowWrite.InRange, PortRow.default, Config.defaultPatience])

theorem Profile.allBad_inRange : Profile.allBad.InRange := by
  intro i
  cases i with
  | output n =>
    simp [Profile.row, Profile.allBad, Vector.get_eq_getElem, RowWrite.InRange, OutputRow.default]
  | rail r =>
    simp [Profile.row, Profile.allBad, Vector.get_eq_getElem, RowWrite.InRange, RailRow.default]
  | port p =>
    cases p <;> simp [Profile.row, Profile.port, Profile.allBad, RowWrite.InRange, PortRow.default,
      Config.defaultPatience]

/-- A row staged without a fault is in range (R136 step 3). -/
theorem State.stagedRow_inRange {s : State} {i : RowId} (h : s.stagedFault i = none) :
    (s.stagedRow i).InRange := by
  rw [State.stagedFault_eq_none] at h
  cases i with
  | output n =>
    simp only [RowId.fieldNumbers, List.forall_mem_cons, fieldInRange] at h
    simp at h
    simp [State.stagedRow, RowWrite.InRange]; omega
  | rail r =>
    simp only [RowId.fieldNumbers, List.forall_mem_cons, fieldInRange] at h
    simp at h
    simp [State.stagedRow, RowWrite.InRange]; omega
  | port p =>
    simp only [RowId.fieldNumbers, List.forall_mem_cons, fieldInRange] at h
    simp at h
    simp [State.stagedRow, RowWrite.InRange]; omega

/-! ## Accounts (R25) -/

/-- What an account has from its row and from SET CAP is in range. -/
structure Account.ProfileFit (a : Account) : Prop where
  nominal : a.nominal ≤ 8191
  reduced : a.reduced ≤ a.nominal
  reserve : a.reserve ≤ 8191
  filterTime : a.filterTime ≤ 15
  cap : a.cap ≤ 8191

theorem Account.InRange.profileFit {a : Account} (ha : a.InRange) : a.ProfileFit :=
  ⟨ha.nominal, ha.reduced, ha.reserve, ha.filterTime, ha.cap⟩

/-- What is committed stays within the nominal limit, and so in range (R27, R28). -/
theorem Account.ProfileFit.inRange {a : Account} (ha : a.ProfileFit) (hc : a.committed ≤ a.limit) :
    a.InRange where
  nominal := ha.nominal
  reduced := ha.reduced
  reserve := ha.reserve
  filterTime := ha.filterTime
  cap := ha.cap
  committed := hc.trans ((min_le_left _ _).trans ha.nominal)

theorem Account.ProfileFit.loaded {a : Account} (ha : a.ProfileFit) {r : Rail} {row : RailRow}
    (hrow : (RowWrite.rail r row).InRange) : (a.loadProfile row).ProfileFit :=
  ⟨hrow.1, hrow.2.1, hrow.2.2.1, hrow.2.2.2, ha.cap⟩

theorem Account.ProfileFit.judgeCandidate {a : Account} (ha : a.ProfileFit) :
    a.judgeCandidate.ProfileFit := by
  rw [Account.judgeCandidate_eq]
  exact ⟨ha.nominal, ha.reduced, ha.reserve, ha.filterTime, by
    rw [Account.judgeCandidate_cap]; exact ha.cap⟩

theorem State.SameProfile.profileFit {s t : State} (h : s.SameProfile t)
    (hs : ∀ r, (s.rail r).ProfileFit) (r : Rail) : (t.rail r).ProfileFit := by
  obtain ⟨hn, hd, hv, hf, hc⟩ := h r
  have hr := hs r
  refine ⟨hn ▸ hr.nominal, ?_, hv ▸ hr.reserve, hf ▸ hr.filterTime, ?_⟩
  · rw [hn, hd]; exact hr.reduced
  · rcases hc with hc | hc
    · rw [hc]; exact hr.cap
    · exact hc

/-! ## Ports (R155, R116) -/

/-- What a port has of its own but its reply is in range: its patience and its buffers. -/
structure PortState.SettingsFit (ps : PortState) : Prop where
  patience : 1 ≤ ps.patience ∧ ps.patience ≤ 8191
  front : ∀ b ∈ ps.front, b.InRange
  capture : ps.capture.InRange

theorem PortState.InRange.settingsFit {ps : PortState} (h : ps.InRange) : ps.SettingsFit :=
  ⟨h.patience, h.front, h.capture⟩

theorem PortState.coldReset_settingsFit (shifter : Shifter) (dataOut : Option Bool) :
    (PortState.coldReset shifter dataOut).SettingsFit :=
  ⟨by simp [PortState.coldReset, Config.defaultPatience], (fun _ h => nomatch h), trivial⟩

theorem rankIn_le_length (order : List Handle) (k : Handle) : rankIn order k ≤ order.length := by
  unfold rankIn
  split
  · next hk => exact List.idxOf_lt_length_of_mem hk
  · exact Nat.zero_le _

/-- A list of handles, each once, holds at most 48. -/
theorem nodup_length_le {l : List Handle} (h : l.Nodup) : l.length ≤ 48 := by
  simpa using h.length_le_card

theorem rankIn_le {order : List Handle} (h : order.Nodup) (k : Handle) : rankIn order k ≤ 48 :=
  (rankIn_le_length order k).trans (nodup_length_le h)

theorem State.Sound.recordRank_le {s : State} (hs : s.Sound) (h : Handle) :
    s.recordRank h ≤ 48 := by
  unfold State.recordRank
  split
  · exact Nat.zero_le _
  · split
    · exact rankIn_le (hs.waiting _).1 h
    · split
      · exact rankIn_le (hs.grants _).1 h
      · exact Nat.zero_le _

theorem State.Sound.noticeRank_le {s : State} (hs : s.Sound) (h : Handle) :
    s.noticeRank h ≤ 48 := by
  unfold State.noticeRank
  split
  · exact Nat.zero_le _
  · exact rankIn_le (hs.notices _).1 h

theorem State.Sound.image_inRange {s : State} (hs : s.Sound) {h : Handle}
    (hr : (s.record h).InRange) :
    (s.image h).InRange := ⟨hr, hs.recordRank_le h, hs.noticeRank_le h⟩

/-- A copy in COPYING takes the next image and stays in range; the last one fills the
buffer (R119). -/
theorem Capture.InRange.copied {first : Handle} {count : Nat} {images : List Image} {i : Image}
    (hc : (Capture.copying first count images).InRange) (hi : i.InRange) :
    (if (images ++ [i]).length < count then Capture.copying first count (images ++ [i])
      else .complete ⟨first, images ++ [i]⟩).InRange := by
  obtain ⟨hlen, hcount, hin, himages⟩ := hc
  have hall : ∀ j ∈ images ++ [i], j.InRange := fun j hj => by
    rcases List.mem_append.1 hj with hj | hj
    · exact himages j hj
    · rw [List.mem_singleton.1 hj]; exact hi
  have hnext : (images ++ [i]).length = images.length + 1 := by simp
  split
  · next hlt => exact ⟨hlt, hcount, hin, hall⟩
  · exact ⟨by rw [hnext]; omega, by rw [hnext]; dsimp only; omega, hall⟩

theorem State.SettingChange.settingsFit {s : State} {p : Port} {g : PortState → PortState}
    (h : s.SettingChange p g) (hs : s.Sound) (hr : ∀ k, (s.record k).InRange)
    (hp : (s.port p).SettingsFit) : (g (s.port p)).SettingsFit := by
  cases h with
  | capture hpos hcount hin =>
    exact ⟨hp.patience, hp.front, hpos, hcount, hin, fun i hi => nomatch hi⟩
  | flip hc =>
    have hfull := hp.capture
    rw [hc] at hfull
    exact ⟨hp.patience, fun b hb => by cases hb; exact hfull, trivial⟩
  | copy hc hi =>
    have hcopying := hp.capture
    rw [hc] at hcopying
    subst hi
    exact ⟨hp.patience, hp.front, hcopying.copied (hs.image_inRange (hr _))⟩
  | patience hpos hv => exact ⟨⟨hpos, hv⟩, hp.front, hp.capture⟩

theorem State.Acts.settingsFit {s t : State} (h : s.Acts t) (hs : s.Sound) (hr : s.InRange)
    (q : Port) :
    (t.port q).SettingsFit := by
  rcases h.sameSettings with h | ⟨-, rfl⟩ | ⟨p, g, hg, rfl⟩ | ⟨v, -, rfl⟩
  · obtain ⟨hp, hf, hc, -⟩ := h.ports q
    have hq := (hr.ports q).settingsFit
    exact ⟨hp ▸ hq.patience, hf ▸ hq.front, hc ▸ hq.capture⟩
  · rw [State.restarted_port]
    exact ⟨(hr.shadow (.port q)).2, (fun _ h => nomatch h), trivial⟩
  · rw [State.onPort_port]
    split
    · next he => subst he; exact hg.settingsFit hs hr.records (hr.ports p).settingsFit
    · exact (hr.ports q).settingsFit
  · cases q
    exacts [(hr.ports .a).settingsFit, (hr.ports .b).settingsFit]

/-! ## The numbers of the part but the replies -/

/-- Every number but those of the replies is in range. -/
structure State.NumbersFit (s : State) : Prop where
  records : ∀ h, (s.record h).InRange
  rails : ∀ r, (s.rail r).InRange
  timers : ∀ n, ∀ k ∈ (s.channel n).retryTimer, k ≤ 255
  settings : ∀ p, (s.port p).SettingsFit
  shadow : s.shadow.InRange
  array : s.array.InRange
  staging : ∀ k, s.staged k ≤ 8191
  write : ∀ w ∈ s.write, w.target.InRange

theorem State.InRange.numbersFit {s : State} (h : s.InRange) : s.NumbersFit :=
  ⟨h.records, h.rails, h.timers, fun p => (h.ports p).settingsFit, h.shadow, h.array, h.staging, h.write⟩

theorem State.NumbersFit.inRange {s : State} (h : s.NumbersFit)
    (hreply : ∀ p, (s.port p).register.reply.InRange) : s.InRange :=
  ⟨h.records, h.rails, h.timers,
    fun p => ⟨hreply p, (h.settings p).patience, (h.settings p).front, (h.settings p).capture⟩,
    h.shadow, h.array, h.staging, h.write⟩

theorem State.NumbersFit.recordsFit {s : State} (h : s.NumbersFit) : s.RecordsFit :=
  ⟨h.records, fun n => (h.shadow (.output n)).2.1⟩

theorem State.NumbersFit.timersFit {s : State} (h : s.NumbersFit) : s.TimersFit :=
  ⟨h.timers, fun n => (h.shadow (.output n)).2.2.2⟩

theorem State.Acts.staged_le {s t : State} (h : s.Acts t) (hr : s.InRange) (k : Fin 13) :
    t.staged k ≤ 8191 := by
  have kept : t.staging = s.staging → t.staged k ≤ 8191 := fun he => by
    rw [State.staged, he]; exact hr.staging k
  rcases h.sameSettings with h | ⟨-, rfl⟩ | ⟨p, g, -, rfl⟩ | ⟨v, hv, rfl⟩
  · exact kept h.staging
  · exact kept (by rw [State.restarted_eq, s.restartTable_tableOnly.rest])
  · exact kept (State.onPort_staging ..)
  · exact hv hr k

theorem State.Acts.numbersFit {s t : State} (h : s.Acts t) (hs : s.Sound) (hr : s.InRange) :
    t.NumbersFit where
  records := (h.recordsFit hr.numbersFit.recordsFit fun p => (hr.ports p).patience.2).records
  rails r := (h.sameProfile.profileFit (fun k => (hr.rails k).profileFit) r).inRange
    ((h.sound hs).limits r)
  timers := (h.timersFit hr.numbersFit.timersFit).timers
  settings := h.settingsFit hs hr
  shadow := by rw [h.quiet.shadow]; exact hr.shadow
  array := by rw [h.quiet.array]; exact hr.array
  staging := h.staged_le hr
  write := by rw [h.quiet.write]; exact hr.write

/-- The numbers are in range where the acts of the store write none of their own. -/
theorem State.NumbersFit.congr {s t : State} (hs : s.NumbersFit)
    (hrec : ∀ h, t.record h = s.record h) (hlimits : t.WithinLimits)
    (hrail : ∀ r, (t.rail r).ProfileFit)
    (htimer : ∀ n, (t.channel n).retryTimer = none ∨ t.channel n = s.channel n)
    (hport : ∀ p, (t.port p).SettingsFit) (hshadow : t.shadow.InRange) (harray : t.array.InRange)
    (hstaging : t.staging = s.staging)
    (hwrite : ∀ w ∈ t.write, w.target.InRange) : t.NumbersFit where
  records h := by rw [hrec]; exact hs.records h
  rails r := (hrail r).inRange (hlimits r)
  timers n k hk := by
    rcases htimer n with hn | hn
    · rw [hn] at hk; cases hk
    · rw [hn] at hk; exact hs.timers n k hk
  settings := hport
  shadow := hshadow
  array := harray
  staging k := by rw [State.staged, hstaging]; exact hs.staging k
  write := hwrite

theorem PortState.SettingsFit.withPatience {ps ps' : PortState} (h : ps.SettingsFit)
    (hp : ps'.patience = ps.patience ∨ 1 ≤ ps'.patience ∧ ps'.patience ≤ 8191)
    (hf : ps'.front = ps.front) (hc : ps'.capture = ps.capture ∨ ps'.capture = .idle) :
    ps'.SettingsFit where
  patience := hp.elim (fun he => by rw [he]; exact h.patience) id
  front := by rw [hf]; exact h.front
  capture := hc.elim (fun he => by rw [he]; exact h.capture) fun he => by rw [he]; trivial

theorem State.readRow_inRange {s : State} (hs : s.NumbersFit) (i : RowId) :
    (s.readRow i).InRange := by
  unfold State.readRow
  split
  · exact hs.shadow.write (hs.array i)
  · exact hs.shadow.spoil i

theorem State.stored_inRange {s : State} (hs : s.NumbersFit) (agrees : Bool) {target : RowWrite}
    (hw : target.InRange) :
    (s.stored agrees target).shadow.InRange ∧ (s.stored agrees target).array.InRange := by
  refine ⟨?_, ?_⟩
  · rw [State.stored_eq]
    dsimp only
    split
    · exact hs.shadow.write hw
    · exact hs.shadow.spoil _
  · rcases s.stored_array agrees target with h | ⟨-, h | h⟩
    · rw [h]; exact hs.array.write hw
    · rw [h]; exact hs.array
    · rw [h]; exact hs.array.spoil _

/-- A port's settings where the state was written elsewhere, or a setting of one port alone. -/
theorem State.NumbersFit.onPort {s u : State} (hs : s.NumbersFit) (hu : ∀ q, u.port q = s.port q)
    (p : Port) {g : PortState → PortState}
    (hg : ∀ ps, (g ps).patience = ps.patience ∧ (g ps).front = ps.front ∧ (g ps).capture = ps.capture)
    (q : Port) : ((u.onPort p g).port q).SettingsFit := by
  rw [State.onPort_port]
  split
  · rw [hu]; exact (hs.settings p).withPatience (.inl (hg _).1) (hg _).2.1 (.inl (hg _).2.2)
  · rw [hu]; exact hs.settings q

theorem State.StoreActs.numbersFit {s t : State} (h : s.StoreActs t) (hs : s.Sound)
    (hr : s.NumbersFit) : t.NumbersFit := by
  have hrec := h.keepsTable.records
  have hlimits := (h.sound hs).limits
  have rails : ∀ {u : State}, (∀ r, u.rail r = s.rail r) → ∀ r, (u.rail r).ProfileFit :=
    fun hu r => by rw [hu]; exact (hr.rails r).profileFit
  have settings : ∀ {u : State}, (∀ q, u.port q = s.port q) → ∀ q, (u.port q).SettingsFit :=
    fun hu q => by rw [hu]; exact hr.settings q
  obtain ⟨_, h⟩ := h
  cases h with
  | @write p i hmode hw hfault =>
    refine hr.congr hrec hlimits (rails fun r => State.onPort_rail ..)
      (fun n => .inr (State.onPort_channel ..))
      (hr.onPort (fun q => by cases q <;> rfl) p fun _ => ⟨rfl, rfl, rfl⟩) ?_ ?_
      (State.onPort_staging ..) fun w hw => ?_
    · rw [State.startWrite, State.onPort_shadow]; exact hr.shadow
    · rw [State.startWrite, State.onPort_array]; exact hr.array
    · rw [State.startWrite, State.onPort_write] at hw
      cases hw
      exact State.stagedRow_inRange hfault
  | @reload p =>
    refine hr.congr hrec hlimits (rails fun r => State.onPort_rail ..)
      (fun n => .inr (State.onPort_channel ..))
      (hr.onPort (fun q => by cases q <;> rfl) p fun _ => ⟨rfl, rfl, rfl⟩) ?_ ?_
      (State.onPort_staging ..) ?_
    · rw [State.startReload, State.onPort_shadow]; exact hr.shadow
    · rw [State.startReload, State.onPort_array]; exact hr.array
    · rw [State.startReload, State.onPort_write]; exact hr.write
  | openPart | resetEnd =>
    exact hr.congr hrec hlimits (rails fun _ => rfl) (fun _ => .inr rfl)
      (settings fun q => by cases q <;> rfl) hr.shadow hr.array rfl hr.write
  | readRow =>
    exact hr.congr hrec hlimits (rails fun _ => rfl) (fun _ => .inr rfl)
      (settings fun q => by cases q <;> rfl) (State.readRow_inRange hr _) hr.array rfl hr.write
  | closePart =>
    refine hr.congr hrec hlimits (rails fun _ => rfl) (fun _ => .inr rfl) (fun q => ?_) hr.shadow
      hr.array rfl hr.write
    cases q
    · exact (hr.settings .a).withPatience (.inl rfl) rfl (.inr rfl)
    · exact (hr.settings .b).withPatience (.inl rfl) rfl (.inr rfl)
  | endLoad =>
    have hshadow : (s.withRowRead 29).shadow.InRange := State.readRow_inRange hr _
    refine hr.congr hrec hlimits (fun r => ?_) (fun n => .inl ?_) (fun q => ?_) ?_ ?_ ?_ ?_
    · rw [State.endLoad_rail]
      obtain ⟨hn, hd, hv, hf⟩ := hshadow (.rail r)
      exact ⟨hn, hd, hv, hf, (hr.rails r).cap⟩
    · rw [State.endLoad_channel]; rfl
    · rw [State.endLoad_port, State.withRowRead_port]
      exact (hr.settings q).withPatience (.inr (hshadow (.port q)).2) rfl (.inl rfl)
    · rw [State.endLoad_eq]; exact hshadow
    · rw [State.endLoad_eq]; exact hr.array
    · rw [State.endLoad_eq]; rfl
    · rw [State.endLoad_eq]; exact hr.write
  | @complete agrees w hw =>
    obtain ⟨hshadow, harray⟩ := State.stored_inRange hr agrees (hr.write w hw)
    rw [← State.completed_shadow_stored] at hshadow
    refine hr.congr hrec hlimits (fun r => ?_) (fun n => ?_) (fun q => ?_) hshadow ?_ ?_ ?_
    · rw [State.completed_rail]
      split
      · exact ((hr.rails r).profileFit.loaded (hshadow (.rail r))).judgeCandidate
      · exact (hr.rails r).profileFit
    · rw [State.completed_channel]
      split
      · exact .inl rfl
      · exact .inr rfl
    · rw [State.completed_port]
      refine (hr.settings q).withPatience ?_ rfl (.inl rfl)
      dsimp only
      split
      · exact .inr (hshadow (.port q)).2
      · exact .inl rfl
    · rw [State.completed_array]; exact harray
    · rw [State.completed_eq, State.stored_eq]
    · rw [State.completed_eq, State.stored_eq]; exact fun _ h => nomatch h

theorem State.coldReset_numbersFit {s : State} (hs : s.NumbersFit) (cause : ResetCause) :
    (s.coldReset cause).NumbersFit where
  records h := by rw [State.coldReset_record]; exact .free
  rails r := by
    have hrail : (s.coldReset cause).rail r =
        Account.coldReset (s.rail r).present (s.rail r).full := s.enterColdReset_rail r
    rw [hrail]
    constructor <;> simp [Account.coldReset, Config.fullCap]
  timers n k hk := by
    have hchan : (s.coldReset cause).channel n = Channel.coldReset (s.channel n).faultLow :=
      s.enterColdReset_channel n
    rw [hchan] at hk
    cases hk
  settings p := by
    obtain ⟨_, _, hport⟩ := s.coldReset_port cause p
    rw [hport]
    exact PortState.coldReset_settingsFit _ _
  shadow := Profile.allBad_inRange
  array := by
    have harray : (s.coldReset cause).array = s.cutWrite.array := rfl
    rw [harray]
    cases hw : s.write with
    | none => rw [s.cutWrite_array.1 hw]; exact hs.array
    | some w =>
      rcases s.cutWrite_array.2 w hw with h | h | h
      · rw [h]; exact hs.array
      · rw [h]; exact hs.array.write (hs.write w hw)
      · rw [h]; exact hs.array.spoil _
  staging k := by
    have hstaging : (s.coldReset cause).staging = Vector.replicate 13 0 := rfl
    simp [State.staged, hstaging, Vector.get_eq_getElem]
  write _ h := nomatch h

end Sys2Proof.Machine
end

section
/-! PROOFS. The ranges of the replies, and O6. -/

namespace Sys2Proof.Machine

/-! ## Values of thirteen bits -/

theorem toNat_le_value {n : Nat} (x : BitVec n) (hn : n = 13) : x.toNat ≤ 8191 := by
  subst hn; omega

theorem packLookup_le (r : Record) (barred : Bool) : packLookup r barred ≤ 8191 := by
  rw [packLookup_eq_bits]; exact toNat_le_value _ rfl

theorem packRail_le (health : Health) {waiters : Nat} (h : waiters ≤ 48) :
    packRail health waiters ≤ 8191 := by
  rw [packRail_eq_bits health h]; exact toNat_le_value _ rfl

theorem packNotice_le (n : Notice) : packNotice n ≤ 8191 := by
  rw [packNotice_eq_bits]; exact toNat_le_value _ rfl

theorem packNoticeCount_le (o : Output) {entries : Nat} (h : entries ≤ 48) :
    packNoticeCount o entries ≤ 8191 := by
  rw [packNoticeCount_eq_bits o h]; exact toNat_le_value _ rfl

theorem packIdentify_le (m : Mode) {bad : Nat} (h : bad ≤ 30) : packIdentify m bad ≤ 8191 := by
  rw [packIdentify_eq_bits m h]; exact toNat_le_value _ rfl

/-- Both values of a part of an image in range are in range (Table 12-8). -/
theorem Image.InRange.part_le {i : Image} (hi : i.InRange) {k a b : Nat}
    (h : i.part k = some (a, b)) :
    a ≤ 8191 ∧ b ≤ 8191 := by
  obtain ⟨-, -, -, -, -, part0, part1, part2, part3⟩ := packedValuesByBitPosition
  match k, h with
  | 0, h =>
    rw [part0 i hi.recordRank hi.noticeRank] at h
    cases h
    exact ⟨toNat_le_value _ rfl, toNat_le_value _ rfl⟩
  | 1, h =>
    rw [part1 i hi.record.retries] at h
    cases h
    refine ⟨?_, toNat_le_value _ rfl⟩
    cases hb : i.record.booking? with
    | none => exact Nat.zero_le _
    | some b => exact (hi.record.current b hb).2
  | 2, h =>
    rw [part2 i] at h
    cases h
    constructor
    · cases ht : i.record.term? with
      | none => exact Nat.zero_le _
      | some t => exact (hi.record.term t ht).2
    · cases hd : i.record.countdown? with
      | none => exact Nat.zero_le _
      | some d => exact hi.record.countdown d hd
  | 3, h =>
    rw [part3 i] at h
    cases h
    exact ⟨toNat_le_value _ rfl, toNat_le_value _ rfl⟩

/-! ## Counts -/

theorem countP_finRange_le {n : Nat} (q : Fin n → Bool) : (List.finRange n).countP q ≤ n := by
  simpa using List.countP_le_length (p := q) (l := List.finRange n)

theorem Profile.badRows_le (f : Profile) : f.badRows ≤ 30 := countP_finRange_le _

theorem RowId.number_le (i : RowId) : i.number ≤ 29 := by
  cases i with
  | output n => exact n.isLt.le.trans (by decide)
  | rail r => simp only [RowId.number]; omega
  | port p => cases p <;> decide

theorem Condition.number_le (c : Condition) : c.number ≤ 1 := by cases c <;> decide

theorem State.Sound.waiting_length_le {s : State} (hs : s.Sound) (r : Rail) :
    (s.rail r).waiting.length ≤ 48 := nodup_length_le (hs.waiting r).1

theorem State.Sound.grantOrder_length_le {s : State} (hs : s.Sound) (r : Rail) :
    (s.rail r).grantOrder.length ≤ 48 := nodup_length_le (hs.grants r).1

theorem State.Sound.noticeOrder_length_le {s : State} (hs : s.Sound) (p : Port) :
    (s.port p).noticeOrder.length ≤ 48 := nodup_length_le (hs.notices p).1

theorem Account.limit_le (a : Account) : a.limit ≤ a.nominal := min_le_left _ _

theorem Account.room_le_limit (a : Account) (c : LeaseClass) : a.room c ≤ a.limit := by
  unfold Account.room; split <;> omega

/-- No more records are revoked than stand in the grant order. -/
theorem State.limitChange_snd_le (s : State) (r : Rail) (old : Nat) :
    (s.limitChange r old).2 ≤ (s.rail r).grantOrder.length := by
  unfold State.limitChange
  split
  · split
    · exact Nat.sub_le _ _
    · split <;> exact Nat.zero_le _
  · exact Nat.zero_le _

/-! ## Handles named in refusals (log 10) -/

theorem handle_number_le (h : Handle) : h.number ≤ 48 := h.isLt

theorem namedHandle_le (sel : BitVec 7) : namedHandle sel ≤ 63 := by
  unfold namedHandle
  split
  · assumption
  · exact Nat.le_of_lt_succ (Config.unheldHandle sel).isLt

theorem namedHandle_of_handleOf {sel : BitVec 7} {h : Handle} (hh : handleOf sel = some h) :
    namedHandle sel = h.number := by
  unfold handleOf at hh
  split at hh
  · next hsel =>
    cases hh
    rw [namedHandle, if_pos (by omega), Handle.number]
    dsimp only
    omega
  · cases hh

/-- A refusal by R8 that is not BAD_HANDLE names a handle that a record has. -/
theorem State.resolve_error {s : State} {c : Client} {sel : BitVec 7} {st : Status}
    (h : s.resolve c sel = .error st) : st = .badHandle ∨ ∃ k, handleOf sel = some k := by
  unfold State.resolve at h
  split at h
  · cases h; exact .inl rfl
  · next k hk => exact .inr ⟨k, hk⟩

/-! ## Replies -/

theorem Reply.inRange {st : Status} {handle a b : Nat} (hh : handle ≤ 48) (ha : a ≤ 8191)
    (hb : b ≤ 8191) : Reply.InRange ⟨st, handle, a, b⟩ := ⟨.inl hh, ha, hb⟩

theorem Reply.only_inRange (st : Status) : (Reply.only st).InRange :=
  Reply.inRange (Nat.zero_le _) (Nat.zero_le _) (Nat.zero_le _)

/-- A refusal that names a handle: its status is BAD_HANDLE or a record has the handle. -/
theorem State.refuseHandle_inRange (s : State) {st : Status} {sel : BitVec 7}
    (h : st = .badHandle ∨ ∃ k, handleOf sel = some k) : (s.refuseHandle st sel).2.InRange := by
  refine ⟨?_, Nat.zero_le _, Nat.zero_le _⟩
  rcases h with rfl | ⟨k, hk⟩
  · exact .inr ⟨rfl, namedHandle_le sel⟩
  · left
    show namedHandle sel ≤ 48
    rw [namedHandle_of_handleOf hk]
    exact handle_number_le k

section
variable {s : State} (p : Port) (f : Fields)

theorem State.InRange.limit_le (hr : s.InRange) (r : Rail) : (s.rail r).limit ≤ 8191 :=
  (s.rail r).limit_le.trans (hr.rails r).nominal

theorem State.noRoom_inRange (hs : s.Sound) (hr : s.InRange) (r : Rail) (c : LeaseClass)
    {handle : Nat} (hh : handle ≤ 48) : (s.noRoom r c handle).InRange :=
  Reply.inRange hh (((s.rail r).room_le_limit c).trans (hr.limit_le r))
    ((List.countP_le_length.trans (hs.waiting_length_le r)).trans (by decide))

/-- A waiter entered has a rank of at most one more than the waiters before it. -/
theorem State.enterList_recordRank_le (s : State) (h : Handle) (b : Booking) (c : Client)
    (term patience : Nat) :
    ((s.enterList h b).setRecord h (.waiting b c term patience)).recordRank h ≤
      (s.rail b.rail).waiting.length + 1 := by
  have hlist : (((s.enterList h b).setRecord h (.waiting b c term patience)).rail b.rail).waiting =
      s.placeWaiter h b.cls (s.rail b.rail).waiting := by
    rw [State.setRecord_rail, State.enterList, State.onRail_rail_same]
  have hlen : (s.placeWaiter h b.cls (s.rail b.rail).waiting).length =
      (s.rail b.rail).waiting.length + 1 := by
    rw [State.placeWaiter_eq, List.length_append, List.length_cons, ← Nat.add_assoc,
      ← List.length_append, List.takeWhile_append_dropWhile]
  rw [State.recordRank, State.setRecord_record_same]
  refine le_trans ?_ hlen.le
  rw [← hlist]
  exact rankIn_le_length _ _

theorem State.requestNew_inRange (hs : s.Sound) (hr : s.InRange) (o : Output) (h : Handle) :
    (s.requestNew p f o h).2.InRange := by
  unfold State.requestNew
  dsimp only
  split
  · exact Reply.inRange (handle_number_le h) (valueA_le f) (Nat.zero_le _)
  · split
    · exact Reply.inRange (handle_number_le h) (valueA_le f)
        ((s.enterList_recordRank_le h _ _ _ _).trans
          ((Nat.add_le_add_right (hs.waiting_length_le _) 1).trans (by decide)))
    · exact s.noRoom_inRange hs hr _ _ (Nat.zero_le _)

theorem cmdRequest_inRange (hs : s.Sound) (hr : s.InRange) : (cmdRequest p f s).2.InRange := by
  have claimed : ∀ o old h0, (s.requestClaim p f o old h0).2.InRange := fun o old h0 => by
    unfold State.requestClaim
    dsimp only
    split
    · exact s.noRoom_inRange hs hr _ _ (Nat.zero_le _)
    · split
      · exact Reply.inRange (handle_number_le _) (valueA_le f) ((handle_number_le old).trans (by decide))
      · exact s.noRoom_inRange hs hr _ _ (Nat.zero_le _)
  have admitted : ∀ o old, (s.requestAdmit p f o old).2.InRange := fun o old => by
    unfold State.requestAdmit
    split
    · exact Reply.only_inRange _
    · split
      · exact Reply.only_inRange _
      · split
        · exact s.requestNew_inRange p f hs hr o _
        · exact claimed o _ _
  unfold cmdRequest
  split
  · exact Reply.only_inRange _
  · split
    · exact Reply.only_inRange _
    · split
      · exact Reply.only_inRange _
      · split
        · exact admitted _ _
        · split
          · exact Reply.inRange (handle_number_le _) (Nat.zero_le _) (Nat.zero_le _)
          · exact admitted _ _

theorem cmdRelease_inRange : (cmdRelease p f s).2.InRange := by
  unfold cmdRelease
  split
  · next he => exact s.refuseHandle_inRange (State.resolve_error he)
  · split
    · exact s.refuseHandle_inRange (.inl rfl)
    · exact Reply.inRange (handle_number_le _) (Nat.zero_le _) (Nat.zero_le _)

theorem renewedTerm_le {term : Nat} (h : term ≤ 8191) : renewedTerm f term ≤ 8191 := by
  unfold renewedTerm
  split
  · exact h
  · exact valueB_le f

theorem cmdRenew_inRange (hr : s.InRange) : (cmdRenew p f s).2.InRange := by
  have allowance : ∀ n, (s.outputRow n).retryAllowance ≤ 8191 := fun n =>
    (hr.shadow (.output n)).2.1.trans (by decide)
  unfold cmdRenew
  split
  · next he => exact s.refuseHandle_inRange (State.resolve_error he)
  · next h hres =>
    have hrec := hr.records h
    split
    · exact Reply.inRange (handle_number_le _) (hr.ports p).patience.2 (Nat.zero_le _)
    · next hx =>
      rw [hx] at hrec
      exact Reply.inRange (handle_number_le _) (renewedTerm_le f (hrec.term _ rfl).2) (allowance _)
    · next hx =>
      rw [hx] at hrec
      exact Reply.inRange (handle_number_le _) (renewedTerm_le f (hrec.term _ rfl).2) (allowance _)
    · exact s.refuseHandle_inRange (.inr ⟨h, (State.resolve_ok hres).1⟩)

theorem cmdResize_inRange (hs : s.Sound) (hr : s.InRange) : (cmdResize p f s).2.InRange := by
  unfold cmdResize
  split
  · next he => exact s.refuseHandle_inRange (State.resolve_error he)
  · next h hres =>
    split
    · exact s.refuseHandle_inRange (.inl rfl)
    · next b hb =>
      have done : ∀ {st : Status}, Reply.InRange ⟨st, h.number, f.valueA.toNat, 0⟩ :=
        Reply.inRange (handle_number_le h) (valueA_le f) (Nat.zero_le _)
      dsimp only
      split
      · exact s.refuseHandle_inRange (.inr ⟨h, (State.resolve_ok hres).1⟩)
      · next hpos =>
        split
        · exact done
        · split
          · next hw =>
            have hsound := (State.ActsBy.resizeWaiter (w := .happening)
              (x := f.valueA.toNat) hb hw (by omega) (valueA_le f)).acts.sound hs
            unfold State.resizeWaiter
            dsimp only
            split
            · exact Reply.inRange (handle_number_le h) (valueA_le f)
                ((hsound.recordRank_le h).trans (by decide))
            · exact done
          · split
            · exact done
            · unfold State.resizeRaise
              split
              · exact done
              · exact s.noRoom_inRange hs hr _ _ (handle_number_le h)

theorem cmdForceEnd_inRange : (cmdForceEnd p f s).2.InRange := by
  unfold cmdForceEnd
  split
  · exact Reply.only_inRange _
  · split
    · exact Reply.only_inRange _
    · split
      · exact Reply.only_inRange _
      · exact Reply.inRange (handle_number_le _) (Nat.zero_le _)
          ((Bool.toNat_le _).trans (by decide))

theorem cmdLookupOutput_inRange (hr : s.InRange) : (cmdLookupOutput p f s).2.InRange := by
  unfold cmdLookupOutput
  split
  · exact Reply.only_inRange _
  · dsimp only
    split
    · exact Reply.inRange (Nat.zero_le _) (Nat.zero_le _) (packLookup_le _ _)
    · next h _ =>
      refine Reply.inRange (handle_number_le _) ?_ (packLookup_le _ _)
      cases hb : (s.record h).booking? with
      | none => exact Nat.zero_le _
      | some b => exact ((hr.records h).current b hb).2

theorem cmdNextNotice_inRange (hs : s.Sound) : (cmdNextNotice p f s).2.InRange := by
  have hlen := hs.noticeOrder_length_le p
  unfold cmdNextNotice
  split
  · exact Reply.only_inRange _
  · next h rest horder =>
    rw [horder] at hlen
    split
    · exact Reply.inRange (handle_number_le _) (packNotice_le _) (packNoticeCount_le _ hlen)
    · exact Reply.only_inRange _

theorem cmdAckNotice_inRange : (cmdAckNotice p f s).2.InRange := by
  unfold cmdAckNotice
  split
  · exact s.refuseHandle_inRange (.inl rfl)
  · next h hh =>
    have refused : (s.refuseHandle .noNotice f.selector).2.InRange :=
      s.refuseHandle_inRange (.inr ⟨h, hh⟩)
    split
    · exact refused
    · next n _ =>
      have hreason : n.reason.number ≤ 8191 := by have := n.reason.number_lt; omega
      split
      · dsimp only
        split
        · exact Reply.inRange (handle_number_le _) hreason (by decide)
        · exact Reply.inRange (handle_number_le _) hreason (by decide)
      · exact refused

theorem cmdSetPatience_inRange : (cmdSetPatience p f s).2.InRange := by
  unfold cmdSetPatience
  split
  · exact Reply.only_inRange _
  · exact Reply.inRange (Nat.zero_le _) (valueA_le f) (Nat.zero_le _)

theorem cmdSetCap_inRange (hs : s.Sound) (hr : s.InRange) : (cmdSetCap p f s).2.InRange := by
  unfold cmdSetCap
  split
  · exact Reply.only_inRange _
  · next r _ =>
    refine Reply.inRange (Nat.zero_le _) ?_
      (((State.limitChange_snd_le _ _ _).trans ?_).trans (by decide : 48 ≤ 8191))
    · rw [State.limitChange_limit, State.onRail_rail_same]
      exact (Account.limit_le _).trans (hr.rails r).nominal
    · rw [State.onRail_rail_same]; exact hs.grantOrder_length_le r

theorem cmdReadRail_inRange (hs : s.Sound) (hr : s.InRange) : (cmdReadRail p f s).2.InRange := by
  unfold cmdReadRail
  split
  · exact Reply.only_inRange _
  · next r _ =>
    dsimp only
    split
    · exact Reply.inRange (Nat.zero_le _) (hr.limit_le r) (hr.rails r).committed
    · exact Reply.inRange (Nat.zero_le _) (hr.rails r).cap (packRail_le _ (hs.waiting_length_le r))
    · exact Reply.only_inRange _

theorem value_toNat_le (v : Value) : v.toNat ≤ 8191 := toNat_le_value v rfl

theorem cmdCapture_inRange : (cmdCapture p f s).2.InRange := by
  unfold cmdCapture
  dsimp only
  split
  · exact Reply.only_inRange _
  · split
    · exact Reply.only_inRange _
    · split
      · exact Reply.only_inRange _
      · split
        · exact Reply.only_inRange _
        · exact Reply.inRange (handle_number_le _) (valueA_le f) (value_toNat_le _)

theorem stamp_getD_le (i : Option Image) : (i.map (fun i => i.stamp.toNat)).getD 0 ≤ 8191 := by
  cases i with
  | none => exact Nat.zero_le _
  | some i => exact value_toNat_le i.stamp

theorem cmdFlip_inRange : (cmdFlip p f s).2.InRange := by
  unfold cmdFlip
  split
  · exact Reply.only_inRange _
  · exact Reply.only_inRange _
  · exact Reply.inRange (handle_number_le _) (stamp_getD_le _) (stamp_getD_le _)

theorem cmdReadImage_inRange (hr : s.InRange) : (cmdReadImage p f s).2.InRange := by
  unfold cmdReadImage
  split
  · exact Reply.only_inRange _
  · split
    · exact Reply.only_inRange _
    · next buffer hbuffer =>
      split
      · exact Reply.only_inRange _
      · next i hi =>
        split
        · exact Reply.only_inRange _
        · next a b hpart =>
          have himage := ((hr.ports p).front buffer hbuffer).images i (List.mem_of_getElem? hi)
          exact Reply.inRange (handle_number_le _) (himage.part_le hpart).1 (himage.part_le hpart).2

theorem cond_number_le (c : Condition) : c.number ≤ 8191 := c.number_le.trans (by decide)

theorem cmdReadRow_inRange (hr : s.InRange) : (cmdReadRow p f s).2.InRange := by
  unfold cmdReadRow
  split
  · exact Reply.only_inRange _
  · next i _ =>
    split
    · exact Reply.only_inRange _
    · next v hv =>
      obtain ⟨e, he, rfl⟩ := Option.map_eq_some_iff.1 hv
      exact Reply.inRange (Nat.zero_le _)
        ((hr.shadow i).fields_le e (List.mem_of_find?_eq_some he)) (cond_number_le _)

theorem selector_toNat_le (sel : BitVec 7) : sel.toNat ≤ 8191 := by have := sel.isLt; omega

theorem cmdLoadStage_inRange : (cmdLoadStage p f s).2.InRange := by
  unfold cmdLoadStage
  split
  · exact Reply.only_inRange _
  · exact Reply.inRange (Nat.zero_le _) (selector_toNat_le _) (cond_number_le _)

theorem cmdStageField_inRange : (cmdStageField p f s).2.InRange := by
  unfold cmdStageField
  split
  · exact Reply.inRange (Nat.zero_le _) (valueA_le f) (selector_toNat_le _)
  · exact Reply.only_inRange _

theorem cmdWriteRow_inRange : (cmdWriteRow p f s).2.InRange := by
  unfold cmdWriteRow
  split
  · exact Reply.only_inRange _
  · split
    · exact Reply.only_inRange _
    · split
      · next k _ => exact Reply.inRange (Nat.zero_le _) (k.isLt.le.trans (by decide)) (by decide)
      · split
        · exact Reply.inRange (Nat.zero_le _) (by decide) (by decide)
        · exact Reply.inRange (Nat.zero_le _) (selector_toNat_le _) (Nat.zero_le _)

theorem cmdReload_inRange : (cmdReload p f s).2.InRange := by
  unfold cmdReload
  split
  · exact Reply.only_inRange _
  · exact Reply.inRange (Nat.zero_le _) (Nat.zero_le _) (Nat.zero_le _)

theorem cmdOpen_inRange : (cmdOpen p f s).2.InRange := by
  unfold cmdOpen
  split
  · exact Reply.only_inRange _
  · exact Reply.inRange (Nat.zero_le _) (s.shadow.badRows_le.trans (by decide))
      ((countP_finRange_le _).trans (by decide))

theorem cmdClose_inRange : (cmdClose p f s).2.InRange := by
  unfold cmdClose
  split
  · exact Reply.only_inRange _
  · exact Reply.inRange (Nat.zero_le _) ((countP_finRange_le _).trans (by decide))
      ((countP_finRange_le _).trans (by decide))

theorem cmdRestart_inRange : (cmdRestart p f s).2.InRange :=
  Reply.inRange (Nat.zero_le _) ((countP_finRange_le _).trans (by decide))
    ((Nat.sub_le _ _).trans ((countP_finRange_le _).trans (by decide)))

theorem cmdIdentify_inRange : (cmdIdentify p f s).2.InRange :=
  Reply.inRange (Nat.zero_le _) (by decide) (packIdentify_le _ s.shadow.badRows_le)

/-- Every command's reply is in range (R155). -/
theorem State.run_reply_inRange (hs : s.Sound) (hr : s.InRange) (c : Command) :
    (s.run c p f).2.InRange := by
  cases c with
  | identify => exact cmdIdentify_inRange p f
  | request => exact cmdRequest_inRange p f hs hr
  | release => exact cmdRelease_inRange p f
  | renew => exact cmdRenew_inRange p f hr
  | resize => exact cmdResize_inRange p f hs hr
  | forceEnd => exact cmdForceEnd_inRange p f
  | lookupOutput => exact cmdLookupOutput_inRange p f hr
  | nextNotice => exact cmdNextNotice_inRange p f hs
  | ackNotice => exact cmdAckNotice_inRange p f
  | setPatience => exact cmdSetPatience_inRange p f
  | setCap => exact cmdSetCap_inRange p f hs hr
  | readRail => exact cmdReadRail_inRange p f hs hr
  | capture => exact cmdCapture_inRange p f
  | flip => exact cmdFlip_inRange p f
  | readImage => exact cmdReadImage_inRange p f hr
  | readRow => exact cmdReadRow_inRange p f hr
  | loadStage => exact cmdLoadStage_inRange p f
  | stageField => exact cmdStageField_inRange p f
  | writeRow => exact cmdWriteRow_inRange p f
  | reload => exact cmdReload_inRange p f
  | openPart => exact cmdOpen_inRange p f
  | closePart => exact cmdClose_inRange p f
  | restart => exact cmdRestart_inRange p f

end

/-! ## Every step -/

/-- The reply that stands in each port's register is in range. -/
def State.RepliesFit (s : State) : Prop := ∀ p, (s.port p).register.reply.InRange

theorem State.Acts.repliesFit {s t : State} (h : s.Acts t) (hs : s.RepliesFit) : t.RepliesFit := by
  intro q
  rcases h.sameSettings with h | ⟨-, rfl⟩ | ⟨p, g, hg, rfl⟩ | ⟨v, -, rfl⟩
  · obtain ⟨-, -, -, hreg⟩ := h.ports q
    rw [hreg]; exact hs q
  · rw [State.restarted_port]; exact Reply.only_inRange _
  · have hreg : (g (s.port p)).register = (s.port p).register := by cases hg <;> rfl
    rw [State.onPort_port]
    split
    · next he => subst he; rw [hreg]; exact hs p
    · exact hs q
  · cases q
    exacts [hs .a, hs .b]

theorem State.startWrite_register (s : State) (p : Port) (i : RowId) (q : Port) :
    ((s.startWrite p i).port q).register = (s.port q).register := by cases p <;> cases q <;> rfl

theorem State.startReload_register (s : State) (p q : Port) :
    ((s.startReload p).port q).register = (s.port q).register := by cases p <;> cases q <;> rfl

theorem State.StoreActs.repliesFit {s t : State} (h : s.StoreActs t) (hs : s.RepliesFit) :
    t.RepliesFit := by
  intro q
  obtain ⟨_, h⟩ := h
  cases h with
  | @write p i => rw [State.startWrite_register]; exact hs q
  | @reload p => rw [State.startReload_register]; exact hs q
  | openPart | readRow | resetEnd => cases q; exacts [hs .a, hs .b]
  | closePart => cases q; exacts [hs .a, hs .b]
  | endLoad =>
    rw [State.endLoad_port, State.withRowRead_port]
    dsimp only
    split
    · exact Reply.inRange (Nat.zero_le _) ((Profile.badRows_le _).trans (by decide)) (Nat.zero_le _)
    · exact hs q
  | complete =>
    rw [State.completed_port]
    dsimp only
    split
    · exact Reply.inRange (Nat.zero_le _) ((RowId.number_le _).trans (by decide)) (Nat.zero_le _)
    · exact hs q

theorem State.coldReset_repliesFit (s : State) (cause : ResetCause) :
    (s.coldReset cause).RepliesFit := by
  intro p
  obtain ⟨_, _, hport⟩ := s.coldReset_port cause p
  rw [hport]
  exact Reply.only_inRange _

theorem State.RepliesFit.endFrame {s : State} (hs : s.RepliesFit) (p : Port) {reg : ReplyRegister}
    (hreg : reg.reply.InRange) (last : Option Bool) : (s.endFrame p reg last).RepliesFit := by
  intro q
  rw [State.endFrame, State.onPort_port]
  split
  · exact hreg
  · exact hs q

theorem exec_repliesFit {i : Instr} {s t : State} (hs : s.Sound) (hr : s.InRange)
    (ht : exec i s = .next t) : t.RepliesFit := by
  have hreplies : s.RepliesFit := fun p => (hr.ports p).reply
  cases hp : framePort? i with
  | none =>
    obtain ⟨u, hu, hdoes⟩ := exec_of_not_frame hp s
    rw [ht] at hu
    cases hu
    rcases hdoes with hdoes | hdoes | ⟨cause, -, rfl⟩
    · exact hdoes.acts.repliesFit hreplies
    · exact hdoes.acts.repliesFit hreplies
    · exact s.coldReset_repliesFit cause
  | some p =>
    rcases frame_ends hp ht with ⟨c, f, hc⟩ | rfl | ⟨reg, last, hreg, rfl⟩
    · rw [hc.exec_eq] at ht
      cases ht
      have hrun : (s.run c p f).1.RepliesFit :=
        (State.run_acts p f hc.taken).elim (fun h => h.acts.repliesFit hreplies)
          fun h => h.acts.repliesFit hreplies
      exact hrun.endFrame p (s.run_reply_inRange p f hs hr c) _
    · exact hreplies
    · refine hreplies.endFrame p ?_ last
      rcases hreg with hreg | ⟨st, hreg⟩
      · rw [hreg]; exact hreplies p
      · rw [hreg]; exact Reply.only_inRange st

theorem State.NumbersFit.endFrame {s : State} (hs : s.NumbersFit) (p : Port) (reg : ReplyRegister)
    (last : Option Bool) : (s.endFrame p reg last).NumbersFit where
  records h := by rw [State.endFrame, State.onPort_record]; exact hs.records h
  rails r := by rw [State.endFrame, State.onPort_rail]; exact hs.rails r
  timers n := by rw [State.endFrame, State.onPort_channel]; exact hs.timers n
  settings := hs.onPort (fun _ => rfl) p fun _ => ⟨rfl, rfl, rfl⟩
  shadow := by rw [State.endFrame, State.onPort_shadow]; exact hs.shadow
  array := by rw [State.endFrame, State.onPort_array]; exact hs.array
  staging k := by
    rw [State.endFrame, State.staged, State.onPort_staging]; exact hs.staging k
  write := by rw [State.endFrame, State.onPort_write]; exact hs.write

theorem exec_numbersFit {i : Instr} {s t : State} (hs : s.Sound) (hr : s.InRange)
    (ht : exec i s = .next t) : t.NumbersFit :=
  exec_keeps (P := fun s => s.Sound ∧ s.InRange) (Q := State.NumbersFit)
    (fun h ha => ha.numbersFit h.1 h.2) (fun h ha => ha.numbersFit h.1 h.2.numbersFit)
    (fun cause h => State.coldReset_numbersFit h.2.numbersFit cause)
    (fun p reg last h => h.endFrame p reg last) ⟨hs, hr⟩ ht

theorem State.InRange.ofQueue {s : State} (hs : s.InRange) (rest : List Instr) :
    { s with pending := rest }.InRange :=
  ⟨hs.records, hs.rails, hs.timers, fun p => by cases p; exacts [hs.ports .a, hs.ports .b],
    hs.shadow, hs.array, hs.staging, hs.write⟩

/-- Settles O6: each act writes numbers in range, from those it finds in range and from the fields
of its frame; and each command's reply is in range. -/
theorem stepKeepsRanges : Obligations.StepKeepsRanges := by
  intro s t hs hr ht
  rcases step_cases ht with rfl | ⟨i, rest, hexec⟩
  · exact hr
  · exact (exec_numbersFit (hs.ofQueue rest) (hr.ofQueue rest) hexec).inRange
      (exec_repliesFit (hs.ofQueue rest) (hr.ofQueue rest) hexec)

end Sys2Proof.Machine
end

section
/-! PROOFS. The queue, the state after reset, and the frames that are not carried out. -/

namespace Sys2Proof.Machine

/-! ## The queue and the state after reset -/

/-- Settles O1: the step takes the first command off the queue. -/
theorem stepRunsFrontCommand : Obligations.StepRunsFrontCommand := fun _ _ _ => rfl

theorem State.reset_outputRow (n : Output) :
    State.reset.shadow.outputs.get n = ⟨.bad, ⟨false, 0, 0, .off, 0, 1⟩⟩ := by
  simp [State.reset, Profile.allBad, Vector.get_eq_getElem, OutputRow.default]

theorem State.reset_railRow (r : Rail) : State.reset.shadow.rails.get r = ⟨.bad, ⟨0, 0, 0, 0⟩⟩ := by
  simp [State.reset, Profile.allBad, Vector.get_eq_getElem, RailRow.default]

theorem State.reset_staged (k : Fin 13) : State.reset.staged k = 0 := by
  simp [State.reset, State.staged, Vector.get_eq_getElem]

/-- Settles O3: each block's reset value, read off. -/
theorem resetHoldsColdResetState : Obligations.ResetHoldsColdResetState := by
  refine ⟨rfl, rfl, rfl, rfl, State.reset_record, fun r => ?_, fun n => ?_, fun p => ?_,
    State.reset_outputRow, State.reset_railRow, rfl, rfl, State.reset_staged⟩
  · rw [State.reset_rail]; exact ⟨rfl, rfl, rfl, rfl, rfl, rfl, rfl, rfl, rfl, rfl⟩
  · rw [State.reset_channel]; exact ⟨rfl, rfl, rfl, rfl, rfl⟩
  · rw [State.reset_port]; exact ⟨rfl, rfl, rfl, rfl, rfl, rfl, rfl, rfl, rfl⟩

theorem State.reset_bare : State.reset.Bare where
  records := State.reset_record
  rails r := by rw [State.reset_rail]; exact ⟨rfl, rfl, rfl, le_refl 8191⟩
  channels n := by rw [State.reset_channel]; exact Channel.coldReset_undriven _

theorem State.reset_noticeLaws : State.reset.NoticeLaws :=
  .ofNone (fun p => by rw [State.reset_port]; rfl) (fun p => by rw [State.reset_port]; rfl)
    fun h => by rw [State.reset_record]; rfl

theorem State.reset_storeExclusive : State.reset.StoreExclusive where
  writeInSetup h := nomatch h
  loadInLoading h := nomatch h
  loadingLoads _ := .inr rfl
  resetLoads _ := ⟨rfl, rfl⟩
  slowWrite p := by
    rw [State.reset_port]
    exact ⟨fun h => (nomatch h), fun ⟨_, hw, _⟩ => nomatch hw⟩
  slowReload p h := by rw [State.reset_port] at h; cases h

theorem State.reset_keepsSupervisor : State.reset.KeepsSupervisor where
  fullPort h := absurd rfl h
  goodRows p h := by cases p <;> cases h
  arrayRoles h := nomatch h.1
  badPortA _ := rfl
  leaseWrite _ _ _ h := nomatch h
  writeMode h := nomatch h
  loadMode h := nomatch h

theorem State.reset_inRange : State.reset.InRange where
  records h := by rw [State.reset_record]; exact .free
  rails r := by
    rw [State.reset_rail]
    constructor <;> simp [Account.coldReset, Config.fullCap]
  timers n k h := by rw [State.reset_channel] at h; cases h
  ports p := by
    rw [State.reset_port]
    obtain ⟨hpatience, hfront, hcapture⟩ := PortState.coldReset_settingsFit .idle none
    exact ⟨Reply.only_inRange .fresh, hpatience, hfront, hcapture⟩
  shadow := Profile.allBad_inRange
  array := Profile.allBad_inRange
  staging k := by rw [State.reset_staged]; exact Nat.zero_le _
  write _ h := nomatch h

/-- Settles O4: nothing is leased, owed, written or loaded after reset, and every number has its
reset value. -/
theorem resetKeepsTheLaws : Obligations.ResetKeepsTheLaws :=
  ⟨(State.reset_bare.partLaws State.reset_noticeLaws).sound State.reset_storeExclusive,
    State.reset_keepsSupervisor, State.reset_inRange⟩

/-! ## Frames that are not carried out -/

theorem State.raiseSelect_port_same (s : State) (p : Port) :
    (s.raiseSelect p).port p = { s.port p with shifter := .idle, dataOut := none } :=
  State.onPort_port_same ..

theorem State.raiseSelect_marked (s : State) (p : Port) (i : Intake) :
    (s.raiseSelect p).markIntake p i = s.marked p i := by cases p <;> rfl

/-- The command of a content is the rise of chip select on a good frame of it. -/
theorem Content.exec_frame (content : Content) (p : Port) (s : State) :
    exec (content.frame p) s = .next (s.frameEnd p (.good content)) := by
  unfold Content.frame
  split
  · next hcode => rw [show content = ⟨pollCode, content.fields⟩ by rw [← hcode]]; rfl
  · split
    · next c hc => rw [c.exec_frame, Command.code_ofCode hc]
    · rfl

/-- Settles O15: a frame that is heard is judged, and each of the three sets its indicator. -/
theorem pollAndFailedFramesOnlyMark : Obligations.PollAndFailedFramesOnlyMark := by
  intro s p f hh
  have judged : ∀ {i : Instr} {a : Arrival} {k : Intake}, exec i s = .next (s.frameEnd p a) →
      (s.raiseSelect p).judge p a = (s.raiseSelect p).markIntake p k →
      exec i s = .next (s.marked p k) := fun hi hk => by
    rw [hi, State.hears_frameEnd hh, hk, State.raiseSelect_marked]
  exact ⟨judged (a := .good ⟨pollCode, f⟩) rfl (by rw [State.judge, State.intake, if_pos rfl]),
    judged (a := .badLength) rfl rfl,
    judged (a := .badCrc) rfl rfl⟩

/-- Settles O16: steps 4 and 5 of the intake. -/
theorem busyAndRepeatOnlyMark : Obligations.BusyAndRepeatOnlyMark := by
  refine ⟨fun s p content hcode hh hslow => ?_, fun s p content hcode hh hslow hlast => ?_⟩
  · have hbusy : ((s.raiseSelect p).port p).slow.isSome = true := by
      rw [State.raiseSelect_port_same]; exact Option.isSome_iff_ne_none.2 hslow
    rw [content.exec_frame, State.hears_frameEnd hh, State.judge, State.intake, if_neg hcode,
      if_pos hbusy, State.raiseSelect_marked]
  · have hidle : ((s.raiseSelect p).port p).slow.isSome = false := by
      rw [State.raiseSelect_port_same]; exact Option.isSome_eq_false_iff.2 (by simp [hslow])
    have hrepeat : ((s.raiseSelect p).port p).lastSeq = some content.fields.seq := by
      rw [State.raiseSelect_port_same]; exact hlast
    rw [content.exec_frame, State.hears_frameEnd hh, State.judge, State.intake, if_neg hcode, hidle,
      if_neg Bool.false_ne_true, if_pos hrepeat, State.raiseSelect_marked]

/-- What an admitted frame finds at its port. -/
theorem State.admits_iff {s : State} {p : Port} {f : Fields} : s.admits p f = true ↔
    s.hears p = true ∧ (s.port p).slow = none ∧ (s.port p).lastSeq ≠ some f.seq := by
  simp [State.admits, and_assoc]

/-- Settles O17: step 6 of the intake. -/
theorem unknownCodeIsRefused : Obligations.UnknownCodeIsRefused := by
  intro s p code f hwf ha
  obtain ⟨hcode, hnone⟩ : code ≠ pollCode ∧ Command.ofCode code = none := by
    simpa [Instr.wellFormed] using hwf
  obtain ⟨hh, hslow, hlast⟩ := State.admits_iff.1 ha
  have hidle : ((s.raiseSelect p).port p).slow.isSome = false := by
    rw [State.raiseSelect_port_same]; exact Option.isSome_eq_false_iff.2 (by simp [hslow])
  have hfresh : ((s.raiseSelect p).port p).lastSeq ≠ some f.seq := by
    rw [State.raiseSelect_port_same]; exact hlast
  have hexec : exec (.unknownCommand p code f) s = .next (s.frameEnd p (.good ⟨code, f⟩)) := rfl
  rw [hexec, State.hears_frameEnd hh, State.judge, State.intake, if_neg hcode, hidle,
    if_neg Bool.false_ne_true, if_neg hfresh]
  simp only [hnone]
  rw [State.raiseSelect_answer]
  rfl

/-! ## Refusals by role and by mode (R163, R144) -/

theorem Command.isSupervisor_iff (c : Command) : c.isSupervisor = true ↔
    c ∈ [Command.openPart, .closePart, .restart, .forceEnd, .setCap, .writeRow, .reload] := by
  cases c <;> decide

/-- Table 10-2, whole. -/
theorem Command.takenIn_iff (c : Command) (mode : Mode) : c.takenIn mode = true ↔ c = .identify
    ∨ mode = .service ∧ c ∉ [Command.writeRow, .reload, .openPart]
    ∨ mode = .setup ∧ c ∈ [Command.lookupOutput, .readRail, .setPatience, .readRow, .loadStage,
      .stageField, .setCap, .writeRow, .reload, .openPart] := by
  cases c <;> cases mode <;> decide

/-- Table 10-2 by the modes that refuse. -/
theorem Command.takenIn_eq_false (c : Command) (mode : Mode)
    (h : c ∈ [Command.request, .release, .renew, .resize, .nextNotice, .ackNotice, .capture, .flip,
        .readImage, .forceEnd, .closePart, .restart] ∧ mode ≠ .service
      ∨ c ∈ [Command.lookupOutput, .readRail, .setPatience, .readRow, .loadStage, .stageField,
        .setCap] ∧ mode = .loading
      ∨ c ∈ [Command.writeRow, .reload, .openPart] ∧ mode ≠ .setup) : c.takenIn mode = false := by
  revert h
  cases c <;> cases mode <;> decide

/-- Settles O18: the two tables by each command, and steps 7 and 8 of the intake. -/
theorem roleAndModeRefusals : Obligations.RoleAndModeRefusals := by
  refine ⟨Command.isSupervisor_iff, Command.takenIn_iff, fun s p c f hc ha hrole => ?_,
    fun s p c f ha hrole hmode => ?_⟩
  · have hsup := c.isSupervisor_iff.2 hc
    rw [State.admits_exec ha, State.execute, State.raiseSelect_portRow, hsup, hrole,
      State.raiseSelect_answer]
    rfl
  · have hpermitted : (c.isSupervisor && decide ((s.portRow p).role = .lease)) = false := by
      cases hsup : c.isSupervisor with
      | false => rfl
      | true => rw [hrole (c.isSupervisor_iff.1 hsup)]; rfl
    rw [State.admits_exec ha, State.execute, State.raiseSelect_portRow, hpermitted,
      State.raiseSelect_mode, Command.takenIn_eq_false c s.mode hmode, if_neg Bool.false_ne_true,
      if_neg Bool.false_ne_true, State.raiseSelect_answer]
    rfl

/-! ## The edges of a frame (R156, R145) -/

/-- Settles O19: the fall by the level of chip select and by cold reset. -/
theorem selectFallStartsReply : Obligations.SelectFallStartsReply := by
  intro s p
  refine ⟨fun hidle hreset => congrArg _ (State.onPort_congr ?_),
    fun hidle hreset => congrArg _ (State.onPort_congr ?_), fun hlow => congrArg _ (State.onPort_self ?_)⟩
  · simp only [hidle, hreset, Bool.false_eq_true, if_false]
    rfl
  · simp only [hidle, hreset, if_true]
  · dsimp only
    split
    · next hidle => exact absurd hidle hlow
    · rfl

/-- A bit sampled is the bit put after those received, of which the last 56 are kept. -/
theorem received_sample (received : BitVec 56) (bit : Bool) :
    (received <<< 1) ||| (BitVec.ofBool bit).setWidth 56 =
      (received ++ BitVec.ofBool bit).extractLsb' 0 56 := by
  have hconcat : received ++ BitVec.ofBool bit = received.concat bit := rfl
  refine BitVec.eq_of_getLsbD_eq fun i hi => ?_
  rw [hconcat]
  cases i with
  | zero => simp
  | succ i => simp [hi, BitVec.getLsbD_eq_getElem (show i < 56 by omega)]

/-- Settles O20: each edge by the state of the shifter. -/
theorem clockEdgesShift : Obligations.ClockEdgesShift := by
  intro s p bit
  refine ⟨fun fr hs => ?_, fun hs => ?_, fun hs => ?_, fun hs => ?_⟩
  · simp only [exec, execClockEdge, hs, Shifting.sample, received_sample, and_self]
  · simp only [exec, execClockEdge, hs, and_self]
  · simp only [exec, execClockEdge, hs, true_and]
    exact ⟨Config.abandonedBit s.freeDraws, by cases p <;> rfl⟩
  · simp only [exec, execClockEdge, hs, and_self]

/-- Settles O23: the rise of chip select by the state of the shifter. -/
theorem coldResetFramesAreNotJudged : Obligations.ColdResetFramesAreNotJudged := by
  intro i p s hp
  obtain ⟨named, hexec, -⟩ := exec_frameEnd hp
  refine ⟨fun hs => ?_, fun hs hreset => ?_⟩
  · rw [hexec, State.frameEnd]
    rcases hs with hs | hs
    · rw [hs]; rfl
    · rw [hs]; rfl
  · rw [hexec, State.frameEnd, hs]
    simp only [hreset, if_true]

end Sys2Proof.Machine
end

section
/-! PROOFS. The frame formats: the fields of a request and of a reply, the CRC, and the numbers of
the named values. -/

namespace Sys2Proof.Machine

/-! ## Request and reply content (Tables 12-1 and 12-2) -/

theorem ofBool_getLsbD {n : Nat} (w : BitVec n) (k : Nat) :
    BitVec.ofBool (w.getLsbD k) = w.extractLsb' k 1 := by
  refine BitVec.eq_of_getLsbD_eq fun i hi => ?_
  obtain rfl : i = 0 := by omega
  simp

/-- The fields put side by side are the fields read again. -/
theorem Content.ofBits_toBits (c : Content) : Content.ofBits c.toBits = c := by
  obtain ⟨code, seq, tag, selector, cls, wait, valueA, valueB⟩ := c
  simp only [Content.ofBits, Content.toBits]
  simp (disch := decide) only [BitVec.extractLsb'_append_eq_of_le,
    BitVec.extractLsb'_append_eq_of_add_le, BitVec.extractLsb'_eq_self, BitVec.getLsbD_append]
  simp

/-- The bits of each field, put side by side, are the bits read. -/
theorem Content.toBits_ofBits (w : BitVec 48) : (Content.ofBits w).toBits = w := by
  simp only [Content.ofBits, Content.toBits, ofBool_getLsbD]
  have join : ∀ {j k a b : Nat}, j = k + b →
      w.extractLsb' j a ++ w.extractLsb' k b = w.extractLsb' k (a + b) :=
    BitVec.extractLsb'_append_extractLsb'_eq_extractLsb'
  calc _ = w.extractLsb' 41 7 ++ w.extractLsb' 40 1 ++ w.extractLsb' 36 4 ++ w.extractLsb' 29 7
        ++ w.extractLsb' 27 2 ++ w.extractLsb' 26 1 ++ w.extractLsb' 13 13 ++ w.extractLsb' 0 13 := rfl
    _ = w.extractLsb' 0 48 := by
      rw [join (show 41 = 40 + 1 from rfl), join (show 40 = 36 + 4 from rfl),
        join (show 36 = 29 + 7 from rfl), join (show 29 = 27 + 2 from rfl),
        join (show 27 = 26 + 1 from rfl), join (show 26 = 13 + 13 from rfl),
        join (show 13 = 0 + 13 from rfl)]
    _ = w := BitVec.extractLsb'_eq_self

theorem Status.code_lt (st : Status) : st.code < 2 ^ 5 := by cases st <;> decide

theorem Intake.code_lt (i : Intake) : i.code < 2 ^ 3 := by cases i <;> decide

/-- Settles O24: a field read from bits put side by side is the one put at its place. -/
theorem frameContentRoundTrips : Obligations.FrameContentRoundTrips := by
  refine ⟨Content.ofBits_toBits, Content.toBits_ofBits,
    fun w => ⟨rfl, rfl, rfl, rfl, rfl, rfl, rfl, rfl⟩, fun r hh ha hb => ?_⟩
  simp only [ReplyRegister.toBits]
  simp (disch := decide) only [BitVec.extractLsb'_append_eq_of_le,
    BitVec.extractLsb'_append_eq_of_add_le, BitVec.extractLsb'_eq_self, BitVec.getLsbD_append,
    Nat.reduceSub]
  simp only [toNat_ofNat_of_lt r.reply.status.code_lt, toNat_ofNat_of_lt r.intake.code_lt,
    toNat_ofNat_of_lt (n := 6) hh, toNat_ofNat_of_lt (n := 13) ha, toNat_ofNat_of_lt (n := 13) hb]
  simp

/-! ## The CRC (R169) -/

/-- A bit is taken in by its difference from the highest bit of the register. -/
theorem crcStep_eq (reg : BitVec 8) (bit : Bool) :
    crcStep reg bit = if bit.xor reg.msb then (reg <<< 1) ^^^ 0x2F#8 else reg <<< 1 := by
  unfold crcStep
  cases bit <;> cases reg.msb <;> rfl

/-- The lowest `n` bits are taken in from the highest of them on. -/
theorem crcBits_eq_foldl (content : BitVec 48) {n : Nat} (hn : n ≤ 48) (reg : BitVec 8) :
    crcBits content n reg =
      (List.range n).foldl (fun reg k => crcStep reg (content.getMsbD (48 - n + k))) reg := by
  induction n generalizing reg with
  | zero => rfl
  | succ n ih =>
    have hfirst : content.getMsbD (48 - (n + 1) + 0) = content.getLsbD n := by
      have hpos : 48 - (n + 1) + 0 < 48 := by omega
      have hlow : 48 - 1 - (48 - (n + 1) + 0) = n := by omega
      rw [BitVec.getMsbD, hlow, decide_eq_true hpos, Bool.true_and]
    have hrest : ∀ k, 48 - (n + 1) + (k + 1) = 48 - n + k := fun k => by omega
    rw [crcBits, ih (by omega), List.range_succ_eq_map, List.foldl_cons, List.foldl_map, hfirst]
    simp only [Nat.succ_eq_add_one, hrest]

/-- Settles O26: the fold along the content bits, bit 47 first, and its examples. -/
theorem crcFollowsItsRule : Obligations.CrcFollowsItsRule := by
  refine ⟨fun content => ?_, by decide +kernel, by decide +kernel, by decide +kernel⟩
  rw [crc8, crcBits_eq_foldl content le_rfl]
  simp only [crcStep_eq, Nat.sub_self, Nat.zero_add]

/-! ## Numbers of the named values (Tables 12-2 to 12-5) -/

/-- Settles O25: each table by its names. -/
theorem namedValuesHaveTheirNumbers : Obligations.NamedValuesHaveTheirNumbers := by
  refine ⟨rfl, ?codes, ?ofCode, ?statuses, ?intakes, ?reasons, ?states, ?kinds, ?ports, ?healths,
    ?modes, ?conds, ?roles, ?lapses, ?classes⟩
  case codes => intro c; cases c <;> decide
  case ofCode =>
    refine fun code c => ⟨fun h => ?_, fun h => ?_⟩
    · rw [← Command.code_ofCode h]; cases c <;> decide
    · have hcode : code = c.code := BitVec.eq_of_toNat_eq (by cases c <;> simpa [Command.code] using h)
      rw [hcode, Command.ofCode_code]
  case statuses => intro st; cases st <;> rfl
  case intakes => intro i; cases i <;> rfl
  case reasons => intro r; cases r <;> decide
  case states => intro r; cases r <;> rfl
  case kinds => intro r; cases r <;> rfl
  case ports => intro p; cases p <;> rfl
  case healths => intro x; cases x <;> rfl
  case modes => intro m; cases m <;> rfl
  case conds => intro c; cases c <;> rfl
  case roles => intro r; cases r <;> rfl
  case lapses => intro a; cases a <;> rfl
  case classes =>
    intro r
    cases r <;> simp [Record.isFree, Record.isWaiting, Record.isOn, Record.isTripped,
      Record.isCommitting, Record.isEnded, Record.stateNumber, Record.covers, Record.booking?]

end Sys2Proof.Machine
end

section
/-! PROOFS. Frames on the pins: what the clock shifts in and out, and what the rise of chip select
makes of it. -/

namespace Sys2Proof.Machine

/-! ## The clock -/

/-- A frame after one clock period: a bit sampled and the next reply bit driven (R156). -/
def Shifting.clock (f : Shifting) (bit : Bool) : Shifting :=
  { f.sample bit with sent := f.sent + 1 }

/-- A frame after a clock period for each bit. -/
def Shifting.clocked (f : Shifting) (bits : List Bool) : Shifting := bits.foldl Shifting.clock f

/-- A port shifting this frame, the last bit driven on its data-out pin. -/
def State.showing (s : State) (p : Port) (f : Shifting) : State :=
  s.onPort p (fun ps =>
    { ps with shifter := .shifting f, dataOut := some (f.reply.getMsbD (f.sent - 1)) })

theorem State.showing_port (s : State) (p : Port) (f : Shifting) : (s.showing p f).port p =
    { s.port p with shifter := .shifting f, dataOut := some (f.reply.getMsbD (f.sent - 1)) } :=
  State.onPort_port_same ..

/-- One period of the clock (R156). -/
theorem runAll_clock (s : State) (p : Port) (f : Shifting) (bit : Bool) (rest : List Instr) :
    runAll (.clockEdge p (.rising bit) :: .clockEdge p .falling :: rest) (s.showing p f) =
      runAll rest (s.showing p (f.clock bit)) := by
  have hrise : exec (.clockEdge p (.rising bit)) (s.showing p f) =
      .next (s.showing p (f.sample bit)) := by
    simp only [exec, execClockEdge, State.showing_port]
    cases p <;> rfl
  have hfall : exec (.clockEdge p .falling) (s.showing p (f.sample bit)) =
      .next (s.showing p (f.clock bit)) := by
    simp only [exec, execClockEdge, State.showing_port]
    cases p <;> rfl
  simp only [runAll, hrise, hfall]

theorem runAll_clockBits (s : State) (p : Port) (f : Shifting) (bits : List Bool)
    (rest : List Instr) :
    runAll (clockBits p bits ++ rest) (s.showing p f) = runAll rest (s.showing p (f.clocked bits)) := by
  induction bits generalizing f with
  | nil => rfl
  | cons bit bits ih =>
    have hbits : clockBits p (bit :: bits) ++ rest =
        .clockEdge p (.rising bit) :: .clockEdge p .falling :: (clockBits p bits ++ rest) := rfl
    rw [hbits, runAll_clock, ih]
    rfl

/-- What the clock counts, and what it leaves of the frame. -/
theorem Shifting.clocked_counts (f : Shifting) (bits : List Bool) :
    (f.clocked bits).reply = f.reply ∧ (f.clocked bits).sent = f.sent + bits.length
      ∧ (f.clocked bits).count = f.count + bits.length := by
  induction bits generalizing f with
  | nil => exact ⟨rfl, rfl, rfl⟩
  | cons bit bits ih =>
    obtain ⟨hreply, hsent, hcount⟩ := ih (f.clock bit)
    refine ⟨hreply, hsent.trans ?_, hcount.trans ?_⟩
    · rw [List.length_cons, Shifting.clock]; dsimp only; omega
    · rw [List.length_cons, Shifting.clock, Shifting.sample]; dsimp only; omega

/-- The frame that the fall of chip select begins. -/
def State.newFrame (s : State) (p : Port) : Shifting :=
  { count := 0, received := 0, reply := frameBits (s.port p).register.toBits, sent := 1 }

theorem exec_chipSelectFall {s : State} {p : Port} (hidle : (s.port p).shifter = .idle)
    (hreset : s.inColdReset = false) :
    exec (.chipSelectFall p) s = .next (s.showing p (s.newFrame p)) := by
  rw [(selectFallStartsReply s p).1 hidle hreset, State.showing]
  exact congrArg _ (State.onPort_congr rfl)

/-- A frame sent bit by bit, before the rise of chip select. -/
theorem runAll_frame {s : State} {p : Port} (hidle : (s.port p).shifter = .idle)
    (hreset : s.inColdReset = false) (bits : List Bool) (rest : List Instr) :
    runAll (.chipSelectFall p :: (clockBits p bits ++ rest)) s =
      runAll rest (s.showing p ((s.newFrame p).clocked bits)) := by
  rw [runAll, exec_chipSelectFall hidle hreset]
  exact runAll_clockBits s p _ bits rest

/-- Settles O21: each falling edge drives the next bit of the copy made at the fall. -/
theorem replyShiftsOut : Obligations.ReplyShiftsOut := by
  intro s p bits hidle hreset
  have hrun := runAll_frame hidle hreset bits []
  rw [List.append_nil] at hrun
  obtain ⟨hreply, hsent, -⟩ := (s.newFrame p).clocked_counts bits
  have hout : ((s.showing p ((s.newFrame p).clocked bits)).port p).dataOut =
      some ((frameBits (s.port p).register.toBits).getMsbD bits.length) := by
    have hbit : 1 + bits.length - 1 = bits.length := by omega
    rw [State.showing_port, hreply, hsent, State.newFrame, hbit]
  refine ⟨_, hrun, hout, (Nat.lt_or_ge bits.length 56).imp id fun hlong => ?_⟩
  rw [hout, BitVec.getMsbD_of_ge _ _ hlong]

/-! ## The bits received -/

/-- A bit shifted into the register of the bits received. -/
def shiftIn (received : BitVec 56) (bit : Bool) : BitVec 56 :=
  (received <<< 1) ||| (BitVec.ofBool bit).setWidth 56

theorem Shifting.clocked_received (f : Shifting) (bits : List Bool) :
    (f.clocked bits).received = bits.foldl shiftIn f.received := by
  induction bits generalizing f with
  | nil => rfl
  | cons bit bits ih => exact ih (f.clock bit)

/-- The next bit of a word shifted in below the bits before it. -/
theorem shiftIn_next (w : BitVec 56) {k : Nat} (hk : k < 56) :
    shiftIn (w >>> (56 - k)) (w.getMsbD k) = w >>> (56 - (k + 1)) := by
  have hconcat : ∀ r : BitVec 56, r ++ BitVec.ofBool (w.getMsbD k) = r.concat (w.getMsbD k) :=
    fun _ => rfl
  rw [shiftIn, received_sample, hconcat]
  refine BitVec.eq_of_getLsbD_eq fun i hi => ?_
  cases i with
  | zero =>
    have hlow : 56 - 1 - k = 56 - (k + 1) + 0 := by omega
    rw [BitVec.getLsbD_extractLsb', BitVec.getLsbD_ushiftRight, BitVec.getLsbD_concat,
      BitVec.getMsbD, hlow, decide_eq_true hk]
    rfl
  | succ i =>
    have hbit : 56 - k + i = 56 - (k + 1) + (i + 1) := by omega
    simp [hi, hbit]

/-- The 56 bits of a word, the highest first, are received as the word. -/
theorem received_of_word (w : BitVec 56) {k : Nat} (hk : k ≤ 56) :
    ((List.range k).map (fun k => w.getMsbD k)).foldl shiftIn 0 = w >>> (56 - k) := by
  induction k with
  | zero => exact (BitVec.ushiftRight_eq_zero le_rfl).symm
  | succ k ih =>
    rw [List.range_succ, List.map_append, List.foldl_append, ih (by omega)]
    exact shiftIn_next w (by omega)

/-! ## The rise of chip select -/

/-- The rise of chip select judges the bits received, on the state that the fall found (R156,
log 19). -/
theorem exec_rise {s : State} {p : Port} {rise : Instr} (hrise : framePort? rise = some p)
    {f : Shifting} (hcount : f.count ≠ 0) :
    exec rise (s.showing p f) = .next ((s.raiseSelect p).judge p f.arrival) := by
  obtain ⟨named, hexec, -⟩ := exec_frameEnd hrise
  have hraise : (s.showing p f).raiseSelect p = s.raiseSelect p := by cases p <;> rfl
  rw [hexec, State.frameEnd, State.showing_port]
  simp only [if_neg hcount, hraise]

/-- A frame given in one command is judged on the state that it finds (log 14). -/
theorem State.idle_frameEnd {s : State} {p : Port} (hidle : (s.port p).shifter = .idle)
    (hreset : s.inColdReset = false) (a : Arrival) :
    s.frameEnd p a = (s.raiseSelect p).judge p a := by
  rw [State.frameEnd, hidle]
  simp only [hreset, Bool.false_eq_true, if_false]

/-- A whole frame received is judged by its CRC (R158, R168). -/
theorem Shifting.arrival_of_word {f : Shifting} (hcount : f.count = 56) {content : BitVec 48}
    {crc : BitVec 8} (hreceived : f.received = content ++ crc) :
    f.arrival = if crc = crc8 content then .good (Content.ofBits content) else .badCrc := by
  have hcontent : f.received.extractLsb' 8 48 = content := by
    rw [hreceived]; exact BitVec.extractLsb'_append_eq_left
  have hcrc : f.received.extractLsb' 0 8 = crc := by
    rw [hreceived]; exact BitVec.extractLsb'_append_eq_right
  rw [Shifting.arrival, if_neg (not_not_intro hcount)]
  simp only [hcontent, hcrc, eq_comm]

/-- Settles O22: the bits received are those sent, and they alone are judged. -/
theorem pinsCarryNamedFrame : Obligations.PinsCarryNamedFrame := by
  intro s p bits rise hidle hreset hrise hbits
  obtain ⟨-, -, hcount⟩ := (s.newFrame p).clocked_counts bits
  have hlen : ((s.newFrame p).clocked bits).count = bits.length := by
    rw [hcount]; exact Nat.zero_add _
  have hrun : runAll (.chipSelectFall p :: clockBits p bits ++ [rise]) s =
      .next ((s.raiseSelect p).judge p ((s.newFrame p).clocked bits).arrival) := by
    rw [List.cons_append, runAll_frame hidle hreset]
    rw [runAll, exec_rise hrise fun h => hbits (List.eq_nil_of_length_eq_zero (hlen ▸ h))]
    rfl
  refine ⟨fun hshort => ?_, fun content crc hword => ?_⟩
  · have harrival : ((s.newFrame p).clocked bits).arrival = .badLength := by
      rw [Shifting.arrival, hlen, if_pos hshort]
    have hexec : exec (.frameLengthFail p) s = .next (s.frameEnd p .badLength) := rfl
    rw [hrun, harrival, hexec, State.idle_frameEnd hidle hreset]
  · have h56 : bits.length = 56 := by rw [hword]; simp
    have hreceived : ((s.newFrame p).clocked bits).received = content ++ crc := by
      rw [Shifting.clocked_received, hword]
      exact (received_of_word (content ++ crc) le_rfl).trans (by simp)
    rw [hrun, Shifting.arrival_of_word (hlen.trans h56) hreceived]
    split
    · rw [Content.exec_frame, State.idle_frameEnd hidle hreset]
    · have hexec : exec (.frameCrcFail p) s = .next (s.frameEnd p .badCrc) := rfl
      rw [hexec, State.idle_frameEnd hidle hreset]

end Sys2Proof.Machine
end

section
/-! PROOFS. The rows by number, and the happenings of the timers, the fault inputs and the image
copies. -/

namespace Sys2Proof.Machine

/-! ## Rows by number (R126, Tables 9-1 and 12-6) -/

theorem RowId.ofFin_output {k : Fin 30} {n : Output} (h : k.val = n.val) :
    RowId.ofFin k = .output n := by
  rw [RowId.ofFin, dif_pos (show k.val < 24 by omega)]
  exact congrArg _ (Fin.ext h)

theorem RowId.ofFin_rail {k : Fin 30} {r : Rail} (h : k.val = 24 + r.val) :
    RowId.ofFin k = .rail r := by
  rw [RowId.ofFin, dif_neg (show ¬ k.val < 24 by omega), dif_pos (show k.val < 28 by omega)]
  exact congrArg _ (Fin.ext (show k.val - 24 = r.val by omega))

theorem RowId.ofFin_number (k : Fin 30) : (RowId.ofFin k).number = k.val := by
  unfold RowId.ofFin
  split
  · rfl
  · split
    · simp only [RowId.number]; omega
    · split
      · simp only [RowId.number]; omega
      · simp only [RowId.number]; omega

/-- The numbers of the rows are those of the outputs, of the rails and of the ports. -/
theorem finRange_rows : List.finRange 30 =
    (List.finRange 24).map (fun n => ⟨n.val, by omega⟩)
      ++ (List.finRange 4).map (fun r => ⟨24 + r.val, by omega⟩) ++ [28, 29] := by decide

/-- The BAD rows are those of each kind (R127). -/
theorem Profile.badRows_eq (f : Profile) : f.badRows =
    (List.finRange 24).countP (fun n => (f.outputs.get n).cond = .bad)
      + (List.finRange 4).countP (fun r => (f.rails.get r).cond = .bad)
      + (if f.portA.cond = .bad then 1 else 0) + (if f.portB.cond = .bad then 1 else 0) := by
  have hout : ∀ n : Output, f.cond (RowId.ofFin ⟨n.val, by omega⟩) = (f.outputs.get n).cond :=
    fun n => by rw [RowId.ofFin_output (n := n) rfl]; rfl
  have hrail : ∀ r : Rail, f.cond (RowId.ofFin ⟨24 + r.val, by omega⟩) = (f.rails.get r).cond :=
    fun r => by rw [RowId.ofFin_rail (r := r) rfl]; rfl
  have hports : [28, 29].countP (fun k : Fin 30 => f.cond (RowId.ofFin k) = .bad) =
      (if f.portA.cond = .bad then 1 else 0) + (if f.portB.cond = .bad then 1 else 0) := by
    have ha : f.cond (RowId.ofFin 28) = f.portA.cond := rfl
    have hb : f.cond (RowId.ofFin 29) = f.portB.cond := rfl
    simp [List.countP_cons, ha, hb, Nat.add_comm]
  rw [Profile.badRows, finRange_rows, List.countP_append, List.countP_append, List.countP_map,
    List.countP_map, hports, Nat.add_assoc]
  simp only [Function.comp_def, hout, hrail, Nat.add_assoc]

/-- Settles O53: the rows by the kinds of their numbers, and each field by its number. -/
theorem rowFieldsAndRanges : Obligations.RowFieldsAndRanges := by
  refine ⟨fun k => ⟨RowId.ofFin_number k, fun _ => RowId.ofFin_output, fun _ => RowId.ofFin_rail, ?a, ?b⟩,
    Profile.badRows_eq, ?bars, ?write, ?spoil, ?outputs, ?rails, ?ports, ?ranges⟩
  case a => rintro h; rw [show k = 28 from Fin.ext h]; rfl
  case b => rintro h; rw [show k = 29 from Fin.ext h]; rfl
  case bars =>
    intro f n
    simp [Profile.bars, or_assoc]
  case write =>
    rintro f (⟨n, v⟩ | ⟨r, v⟩ | ⟨p, v⟩)
    · rfl
    · rfl
    · cases p <;> rfl
  case spoil =>
    rintro f (n | r | p)
    · rfl
    · rfl
    · cases p <;> rfl
  case outputs =>
    intro n v k
    match k with
    | 0 | 1 | 2 | 3 | 4 | 5 => rfl
    | k + 6 => rfl
  case rails =>
    intro r v k
    match k with
    | 0 | 1 | 2 | 3 | 4 | 5 | 6 | 7 | 8 | 9 => rfl
    | k + 10 => rfl
  case ports =>
    intro p v k
    match k with
    | 0 | 1 | 2 | 3 | 4 | 5 | 6 | 7 | 8 | 9 | 10 | 11 | 12 => rfl
    | k + 13 => rfl
  case ranges =>
    intro k v nominal
    fin_cases k <;> simp [fieldInRange]

/-! ## Ticks (R63, R93, R34) -/

/-- Settles O46: the two halves of a TERM_TIMER_TICK, and the retry timers. -/
theorem timerTicksLower : Obligations.TimerTicksLower := by
  refine fun s => ⟨fun due => ⟨_, rfl, ?_, fun r => ?_, fun h => ?_⟩,
    fun due => ⟨_, rfl, rfl, fun n => ?_⟩⟩
  · rw [State.runFilters_eq, State.runCountdowns_eq]
  · rw [State.runFilters_rail, State.runCountdowns_mode, State.runCountdowns_rail]
    rfl
  · rw [State.runFilters_record, State.runCountdowns_record]
    split
    · cases s.record h <;> rfl
    · rfl
  · exact vector_get_ofFn _ n

/-! ## Fault inputs (R88, R100) -/

theorem State.onChannel_congr {s : State} {n : Output} {f g : Channel → Channel}
    (h : f (s.channel n) = g (s.channel n)) : s.onChannel n f = s.onChannel n g := by
  simp only [State.onChannel, h]

theorem State.onChannel_self {s : State} {n : Output} {f : Channel → Channel}
    (h : f (s.channel n) = s.channel n) : s.onChannel n f = s :=
  (State.onChannel_congr (g := id) h).trans (by
    simp [State.onChannel, State.channel, Vector.get_eq_getElem])

/-- Settles O49: the fall by the input's level and the channel's state. -/
theorem faultEdgesRaiseTrips : Obligations.FaultEdgesRaiseTrips := by
  intro s n
  refine ⟨fun hhigh hon => congrArg _ (State.onChannel_congr ?_),
    fun hhigh hoff => congrArg _ (State.onChannel_congr ?_),
    fun hlow => congrArg _ (State.onChannel_self ?_), rfl⟩
  · simp [Channel.faultFalls, hhigh, hon]
  · simp [Channel.faultFalls, hhigh, hoff]
  · simp [Channel.faultFalls, hlow]

/-! ## Image copies (R117, R119) -/

theorem slotAfter_eq {first k : Handle} {n : Nat} (h : k.val = first.val + n) :
    slotAfter first n = k := by
  rw [slotAfter, dif_pos (show first.val + n < 48 by omega)]
  exact Fin.ext h.symm

/-- Settles O51: the copy by the capture state, and the ranks by the lists. -/
theorem imageCopyAdvances : Obligations.ImageCopyAdvances := by
  intro s p
  refine ⟨fun first count images k hc hk => ?_, fun hc => ?_, fun h ahead behind hahead =>
    ⟨fun b hw hb hlist => ?_, fun b hcm hb hlist => ?_, fun n hn hlist => ?_, fun hw hcm => ?_, fun hn => ?_⟩⟩
  · simp only [exec, execImageCopy, hc, slotAfter_eq hk, List.length_append, List.length_singleton]
    rfl
  · cases hcopy : (s.port p).capture with
    | copying first count images => exact absurd hcopy (hc first count images)
    | idle | complete => simp only [exec, execImageCopy, hcopy]
  · rw [State.recordRank, hb]
    simp only [hw, if_true, hlist]
    exact rankIn_append_cons hahead
  · have hnw := Record.isWaiting_eq_false_of_isCommitting hcm
    rw [State.recordRank, hb]
    simp only [hnw, hcm, if_true, hlist, Bool.false_eq_true, if_false]
    exact rankIn_append_cons hahead
  · rw [State.noticeRank, hn]
    simp only [hlist]
    exact rankIn_append_cons hahead
  · rw [State.recordRank]
    split
    · rfl
    · simp [hw, hcm]
  · rw [State.noticeRank, hn]

/-! ## RELEASE (R17) -/

/-- Settles O40: the record resolves, and a scan takes no FREE record. -/
theorem releaseFreesRecord : Obligations.ReleaseFreesRecord := by
  intro s p f h b ht hsel hholder hb
  have hrun : s.run .release p f = (((s.freeRecord h).scan b.rail).countChange,
      ⟨.done, h.number, 0, 0⟩) := by
    simp only [State.run, cmdRelease, clientOf, State.resolve_of_holder hsel hholder, hb]
  refine ⟨_, State.takes_exec_of_run ht (by decide) hrun, rfl, ?_⟩
  have hbook := (s.freeRecord h).scan_booking b.rail h
  rw [State.freeRecord_record, if_pos rfl] at hbook
  exact Record.booking?_eq_none hbook

end Sys2Proof.Machine
end

section
/-! PROOFS. What each command does at its block, read off its cases: the refusals of handles and of
REQUEST, RESIZE, FORCE END, ACK NOTICE and the snapshot commands. -/

namespace Sys2Proof.Machine

/-! ## Handles that the party does not hold (R8) -/

/-- A selector of 0, or above 48, names no record (R8). -/
theorem handleOf_eq_none {sel : BitVec 7} (h : sel.toNat = 0 ∨ 48 < sel.toNat) :
    handleOf sel = none := by
  rw [handleOf, dif_neg (by omega)]

theorem namedHandle_of_le {sel : BitVec 7} (h : sel.toNat ≤ 63) : namedHandle sel = sel.toNat :=
  if_pos h

theorem State.resolve_of_no_handle {c : Client} {sel : BitVec 7} (s : State)
    (h : handleOf sel = none) : s.resolve c sel = .error .badHandle := by
  simp only [State.resolve, h]

/-- A handle whose record the party does not hold (R8). -/
theorem State.resolve_of_not_held {s : State} {c : Client} {sel : BitVec 7} {h : Handle}
    (hh : sel.toNat = h.number) (hheld : (s.record h).holder? ≠ some (.client c)) :
    s.resolve c sel = .error (if (s.record h).notice?.any (fun n => n.owedTo = c) then .tooLate
      else if (s.record h).isFree then .badHandle else .notHolder) := by
  simp only [State.resolve, handleOf_eq_some hh, if_neg hheld]
  split
  · rfl
  · split <;> rfl

/-- RELEASE, RENEW and RESIZE refuse a handle that does not resolve (R8). -/
theorem State.run_of_resolve_error {s : State} {c : Command} {p : Port} {f : Fields} {st : Status}
    (hc : c ∈ [Command.release, .renew, .resize])
    (h : s.resolve (clientOf p f) f.selector = .error st) :
    s.run c p f = (s, ⟨st, namedHandle f.selector, 0, 0⟩) := by
  simp only [List.mem_cons, List.not_mem_nil, or_false] at hc
  rcases hc with rfl | rfl | rfl
  · simp only [State.run, cmdRelease, h, State.refuseHandle]
  · simp only [State.run, cmdRenew, h, State.refuseHandle]
  · simp only [State.run, cmdResize, h, State.refuseHandle]

/-- Settles O39: the four ways in which a handle does not resolve. -/
theorem handleNotHeldIsRefused : Obligations.HandleNotHeldIsRefused := by
  intro s p c f hc ht refused
  have hrestart : c ≠ .restart := by rintro rfl; simp at hc
  have refuse : ∀ {st : Status} {k : Nat}, s.resolve (clientOf p f) f.selector = .error st →
      namedHandle f.selector = k → refused st k := fun hres hk => by
    have hrun := State.run_of_resolve_error hc hres
    rw [hk] at hrun
    exact State.takes_exec_of_run ht hrestart hrun
  refine ⟨fun h0 => ?_, fun hlow hhigh => ?_, fun hhigh => ?_, fun h hsel hheld => ⟨fun n hn howed => ?_,
    fun hnone => ?_⟩⟩
  · exact refuse (s.resolve_of_no_handle (handleOf_eq_none (.inl h0)))
      ((namedHandle_of_le (by omega)).trans h0)
  · exact refuse (s.resolve_of_no_handle (handleOf_eq_none (.inr hlow))) (namedHandle_of_le hhigh)
  · exact ⟨_, Nat.lt_succ_of_le (namedHandle_le f.selector),
      refuse (s.resolve_of_no_handle (handleOf_eq_none (.inr (by omega)))) rfl⟩
  · refine refuse ((State.resolve_of_not_held hsel hheld).trans ?_)
      (namedHandle_of_handleOf (handleOf_eq_some hsel))
    simp [hn, howed]
  · refine refuse ((State.resolve_of_not_held hsel hheld).trans ?_)
      (namedHandle_of_handleOf (handleOf_eq_some hsel))
    have hnot : (s.record h).notice?.any (fun n => n.owedTo = ⟨p, f.tag⟩) = false := by
      cases hn : (s.record h).notice? with
      | none => rfl
      | some n => exact decide_eq_false (hnone n hn)
    rw [hnot, if_neg Bool.false_ne_true]

/-! ## REQUEST's refusals (Table 2-4) -/

section
variable {s : State} {p : Port} {f : Fields} {o : Output}

theorem cmdRequest_badOutput (h : 23 < f.selector.toNat) :
    cmdRequest p f s = (s, ⟨.badOutput, 0, 0, 0⟩) := by
  simp only [cmdRequest, outputOf_eq_none h, State.refuse, Reply.only]

theorem cmdRequest_barred (ho : f.selector.toNat = o.val) (hbar : (s.channel o).barred = true) :
    cmdRequest p f s = (s, ⟨.barred, 0, 0, 0⟩) := by
  simp only [cmdRequest, outputOf_eq_some ho, hbar, if_true, State.refuse, Reply.only]

theorem cmdRequest_badValue (ho : f.selector.toNat = o.val) (hbar : (s.channel o).barred = false)
    (hv : f.valueA.toNat = 0 ∨ (s.outputRow o).ceiling < f.valueA.toNat ∨ f.valueB.toNat = 0) :
    cmdRequest p f s = (s, ⟨.badValue, 0, 0, 0⟩) := by
  simp only [cmdRequest, outputOf_eq_some ho, hbar, Bool.false_eq_true, if_false, if_pos hv,
    State.refuse, Reply.only]

/-- Steps 1 to 3 of Table 2-4 pass a REQUEST for this output. -/
structure State.Passes (s : State) (f : Fields) (o : Output) : Prop where
  output : f.selector.toNat = o.val
  unbarred : (s.channel o).barred = false
  current : 0 < f.valueA.toNat
  ceiling : f.valueA.toNat ≤ (s.outputRow o).ceiling
  term : 0 < f.valueB.toNat

/-- Step 4 of Table 2-4, and what it passes on (R12). -/
theorem State.Passes.cmdRequest_eq (h : s.Passes f o) : cmdRequest p f s =
    match s.covering o with
    | none => s.requestAdmit p f o none
    | some k =>
      match (s.record k).holder? with
      | some (.client c) =>
        (s, ⟨if c = clientOf p f then .duplicate else .occupied, k.number, 0, 0⟩)
      | _ => s.requestAdmit p f o (some k) := by
  obtain ⟨ho, hbar, hpos, hceil, hterm⟩ := h
  have hvalues : ¬ (f.valueA.toNat = 0 ∨ (s.outputRow o).ceiling < f.valueA.toNat
      ∨ f.valueB.toNat = 0) := by omega
  simp only [cmdRequest, outputOf_eq_some ho, hbar, Bool.false_eq_true, if_false,
    if_neg hvalues] <;> rfl

/-- A REQUEST for an output that no port's lease covers comes to step 5. -/
theorem State.Passes.cmdRequest_admit (h : s.Passes f o)
    (hcov : ∀ k c, s.covering o = some k → (s.record k).holder? ≠ some (.client c)) :
    cmdRequest p f s = s.requestAdmit p f o (s.covering o) := by
  rw [h.cmdRequest_eq]
  cases hc : s.covering o with
  | none => rfl
  | some k =>
    dsimp only
    split
    · next c hx => exact absurd hx (hcov k c hc)
    · rfl

theorem State.requestAdmit_quota {old : Option Handle} (h : (s.portRow p).quota ≤ s.counted p) :
    s.requestAdmit p f o old = (s, ⟨.quota, 0, 0, 0⟩) := by
  rw [State.requestAdmit, if_pos h]; rfl

theorem State.requestAdmit_tableFull {old : Option Handle} (h : s.counted p < (s.portRow p).quota)
    (hfull : ∀ k, s.record k ≠ .free) : s.requestAdmit p f o old = (s, ⟨.tableFull, 0, 0, 0⟩) := by
  have hnone : s.lowestFree = none :=
    State.lowestFree_eq_none.2 fun k => Bool.eq_false_iff.2 (mt Record.isFree_iff.1 (hfull k))
  rw [State.requestAdmit, if_neg (Nat.not_le.2 h), hnone]; rfl

theorem State.requestAdmit_noRoom (h : s.counted p < (s.portRow p).quota)
    (hfree : ∃ k, s.record k = .free)
    (hfits : s.fits (s.outputRow o).rail f.cls f.valueA.toNat = false) (hwait : f.wait = false) :
    s.requestAdmit p f o none = (s, ⟨.noRoom, 0, (s.rail (s.outputRow o).rail).room f.cls,
      s.blockers (s.outputRow o).rail f.cls⟩) := by
  obtain ⟨k, hk⟩ := State.exists_lowestFree hfree
  rw [State.requestAdmit, if_neg (Nat.not_le.2 h), hk]
  dsimp only
  rw [State.requestNew]
  have hasked : s.fits (s.asked f o).rail (s.asked f o).cls (s.asked f o).current = false := hfits
  simp only [hasked, hwait, Bool.false_eq_true, if_false]
  rfl

theorem State.requestAdmit_claimNoRoom {old : Handle} {b : Booking}
    (h : s.counted p < (s.portRow p).quota) (hfree : ∃ k, s.record k = .free)
    (hb : (s.record old).booking? = some b) (hlt : b.current < f.valueA.toNat)
    (hfits : s.fits (s.outputRow o).rail f.cls (f.valueA.toNat - b.current) = false) :
    s.requestAdmit p f o (some old) = (s, ⟨.noRoom, 0, (s.rail (s.outputRow o).rail).room f.cls,
      s.blockers (s.outputRow o).rail f.cls⟩) := by
  obtain ⟨k, hk⟩ := State.exists_lowestFree hfree
  rw [State.requestAdmit, if_neg (Nat.not_le.2 h), hk]
  dsimp only
  have habove : ¬ (s.asked f o).current ≤ b.current := Nat.not_le.2 hlt
  have hasked : s.fits (s.asked f o).rail (s.asked f o).cls ((s.asked f o).current - b.current) =
      false := hfits
  simp only [State.requestClaim, hb, habove, hasked, decide_false, Bool.or_false,
    Bool.false_eq_true, if_false]
  rfl

end

/-- Settles O35: the steps of Table 2-4 one by one. -/
theorem requestRefusedInOrder : Obligations.RequestRefusedInOrder := by
  refine ⟨fun s p => List.countP_congr fun h _ => ?_, fun s o h honce => ⟨State.covering_covers,
    honce.covering_eq_some⟩, fun s p f ht => ?_⟩
  · cases hx : s.record h with
    | free | waiting | granted | tripped | ended =>
      simp [Record.countsAgainst, Record.owedParty?, Record.holder?, Record.notice?]
    | deviceTripped b k n | held b k n =>
      cases n <;> simp [Record.countsAgainst, Record.owedParty?, Record.holder?, Record.notice?]
  · intro refused
    have refuse : ∀ {reply : Reply}, cmdRequest p f s = (s, reply) → refused reply := fun hrun =>
      State.takes_exec_of_run ht (by decide) hrun
    refine ⟨fun hsel => refuse (cmdRequest_badOutput hsel), fun o ho => ⟨fun hbar =>
      refuse (cmdRequest_barred ho hbar), fun hbar => ⟨fun hv => refuse (cmdRequest_badValue ho hbar hv),
      fun hpos hceil hterm => ?_⟩⟩⟩
    have hpass : s.Passes f o := ⟨ho, hbar, hpos, hceil, hterm⟩
    refine ⟨fun h c hcov hheld => refuse ?_, fun hdevice => ⟨fun hq => refuse ?_, fun hq hfull => refuse ?_,
      fun hq hfree hcov hfits hwait => refuse ?_, fun h b hq hfree hcov hb hlt hfits => refuse ?_⟩⟩
    · rw [hpass.cmdRequest_eq, hcov]
      dsimp only
      rw [hheld]
      rfl
    · rw [hpass.cmdRequest_admit hdevice, State.requestAdmit_quota hq]
    · rw [hpass.cmdRequest_admit hdevice, State.requestAdmit_tableFull hq hfull]
    · rw [hpass.cmdRequest_admit hdevice, hcov, State.requestAdmit_noRoom hq hfree hfits hwait]
    · rw [hpass.cmdRequest_admit hdevice, hcov, State.requestAdmit_claimNoRoom hq hfree hb hlt hfits]

/-! ## RESIZE (R40 to R43) -/

section
variable {s : State} {p : Port} {f : Fields} {h : Handle} {b : Booking}

/-- RESIZE of a handle that the party holds, by its tests in order. -/
theorem cmdResize_eq (hsel : f.selector.toNat = h.number)
    (hheld : (s.record h).holder? = some (.client ⟨p, f.tag⟩))
    (hb : (s.record h).booking? = some b) :
    cmdResize p f s =
      if f.valueA.toNat = 0 ∨ (s.outputRow b.output).ceiling < f.valueA.toNat then
        (s, ⟨.badValue, h.number, 0, 0⟩)
      else if f.valueA.toNat = b.current then (s.countChange, ⟨.done, h.number, f.valueA.toNat, 0⟩)
      else if (s.record h).isWaiting then s.resizeWaiter h b f.valueA.toNat
      else if f.valueA.toNat < b.current then s.resizeLower h b f.valueA.toNat
      else s.resizeRaise h b f.valueA.toNat := by
  simp only [cmdResize, clientOf, State.resolve_of_holder hsel hheld, hb, State.refuseHandle,
    namedHandle_of_handleOf (handleOf_eq_some hsel)]

end

/-- Settles O42: each test of RESIZE, and the record with its new current. -/
theorem resizeChangesCurrent : Obligations.ResizeChangesCurrent := by
  intro s p f h b ht hsel hheld hb x resized answers
  have answer : ∀ {t : State} {reply : Reply}, cmdResize p f s = (t, reply) → answers t reply :=
    fun hrun => State.takes_exec_of_run ht (by decide) hrun
  have hresized : resized = s.setRecord h ((s.record h).withCurrent x) := by
    refine congrArg (s.setRecord h) ?_
    cases hx : s.record h with
    | waiting | granted | tripped => rfl
    | free | deviceTripped | held | ended => rw [hx] at hheld; cases hheld
  refine ⟨fun hbad => answer ?_, fun hpos hceil => ?_⟩
  · rw [cmdResize_eq hsel hheld hb, if_pos hbad]
  · have hgood : ¬ (x = 0 ∨ (s.outputRow b.output).ceiling < x) := by omega
    have htests := cmdResize_eq hsel hheld hb
    rw [if_neg hgood] at htests
    refine ⟨fun heq => answer ?_, fun hc hlt => answer ?_, fun hc hlt hfits => answer ?_,
      fun hc hlt hfits => answer ?_, fun hw hne => ⟨fun hafter => answer ?_, fun hafter => answer ?_⟩⟩
    · rw [htests, if_pos heq]
    · rw [htests, if_neg (Nat.ne_of_lt hlt), Record.isWaiting_eq_false_of_isCommitting hc,
        if_neg Bool.false_ne_true, if_pos hlt, hresized]
      rfl
    · rw [htests, if_neg (Nat.ne_of_gt hlt), Record.isWaiting_eq_false_of_isCommitting hc,
        if_neg Bool.false_ne_true, if_neg (Nat.lt_asymm hlt), hresized, State.resizeRaise, if_pos hfits]
    · rw [htests, if_neg (Nat.ne_of_gt hlt), Record.isWaiting_eq_false_of_isCommitting hc,
        if_neg Bool.false_ne_true, if_neg (Nat.lt_asymm hlt), State.resizeRaise,
        if_neg (by rw [hfits]; decide)]
      rfl
    · rw [hresized] at hafter ⊢
      rw [htests, if_neg hne, if_pos hw, State.resizeWaiter]
      exact Prod.ext rfl (if_pos hafter)
    · rw [hresized] at hafter ⊢
      rw [htests, if_neg hne, if_pos hw, State.resizeWaiter]
      exact Prod.ext rfl (if_neg (Bool.eq_false_iff.1 hafter))

/-! ## FORCE END (R18) -/

/-- Settles O43: the handle, the state of the record, and the end. -/
theorem forceEndEndsRecord : Obligations.ForceEndEndsRecord := by
  intro s p f ht refused
  have answer : ∀ {t : State} {reply : Reply}, cmdForceEnd p f s = (t, reply) →
      exec (.forceEnd p f) s = .next (t.replied p Command.forceEnd.code f reply) :=
    fun hrun => State.takes_exec_of_run ht (by decide) hrun
  refine ⟨fun hsel => answer ?_, fun h hsel => ⟨fun hfree => answer ?_, fun hended => answer ?_,
    fun b hb hended => answer ?_⟩⟩
  · simp only [cmdForceEnd, handleOf_eq_none hsel, State.refuse, Reply.only]
  · simp only [cmdForceEnd, handleOf_eq_some hsel, hfree, Record.booking?, State.refuse, Reply.only]
  · cases hx : s.record h with
    | ended =>
      simp only [cmdForceEnd, handleOf_eq_some hsel, hx, Record.booking?, Record.isEnded, if_true,
        State.refuse, Reply.only]
    | _ => rw [hx] at hended; cases hended
  · have hleft : ((s.endRecord h .forced).record h).isEnded.toNat =
        if (s.record h).owedParty? = none then 0 else 1 := by
      rw [State.endRecord_record, if_pos rfl, Record.endedAs, hb]
      cases (s.record h).owedParty? <;> rfl
    simp only [cmdForceEnd, handleOf_eq_some hsel, hb, hended, Bool.false_eq_true, if_false, hleft]

/-! ## ACK NOTICE (R109 to R111) -/

/-- Settles O45: the handle, the notice's party, and the state of the record. -/
theorem ackNoticeClears : Obligations.AckNoticeClears := by
  intro s p f ht answers
  have answer : ∀ {t : State} {reply : Reply}, cmdAckNotice p f s = (t, reply) → answers t reply :=
    fun hrun => State.takes_exec_of_run ht (by decide) hrun
  have unnamed : handleOf f.selector = none → ∀ {k}, namedHandle f.selector = k →
      answers s ⟨.badHandle, k, 0, 0⟩ := fun hnone k hk => answer (by
    simp only [cmdAckNotice, hnone, State.refuseHandle, hk])
  refine ⟨fun h0 => ?_, fun hlow hhigh => ?_, fun hhigh => ?_, fun h hsel => ⟨fun hnone => answer ?_,
    fun n hn howed => ?_⟩⟩
  · exact unnamed (handleOf_eq_none (.inl h0)) ((namedHandle_of_le (by omega)).trans h0)
  · exact unnamed (handleOf_eq_none (.inr hlow)) (namedHandle_of_le hhigh)
  · exact ⟨_, Nat.lt_succ_of_le (namedHandle_le f.selector),
      unnamed (handleOf_eq_none (.inr (by omega))) rfl⟩
  · have hnamed := namedHandle_of_handleOf (handleOf_eq_some hsel)
    simp only [cmdAckNotice, handleOf_eq_some hsel]
    cases hn : (s.record h).notice? with
    | none => simp only [State.refuseHandle, hnamed]
    | some n => simp only [clientOf, if_neg (hnone n hn), State.refuseHandle, hnamed]
  · intro cleared
    have hparty : n.owedTo = clientOf p f := howed
    have hdrop : s.dropNotice h (some n) = cleared := by
      rw [State.dropNotice, howed]; rfl
    refine ⟨fun hended => answer ?_, fun hended => answer ?_⟩
    · have hfree : s.freeRecord h = cleared.setRecord h .free := by
        have hidle : (s.record h).isWaiting = false ∧ (s.record h).isCommitting = false := by
          cases hx : s.record h <;> simp_all [Record.isEnded, Record.isWaiting, Record.isCommitting]
        rw [State.freeRecord, State.withdraw_of_idle hidle.1 hidle.2, hn, hdrop]
      simp only [cmdAckNotice, handleOf_eq_some hsel, hn, if_pos hparty, hended, if_true, hfree]
    · simp only [cmdAckNotice, handleOf_eq_some hsel, hn, if_pos hparty, hended, Bool.false_eq_true,
        if_false, hdrop]
      cases s.record h <;> rfl

/-! ## The snapshot commands (R118, R121, R122) -/

/-- Settles O50: the checks of each command in order. -/
theorem snapshotCommands : Obligations.SnapshotCommands := by
  refine ⟨fun s p f ht => ?_, fun s p f ht => ?_, fun s p f ht => ?_⟩
  · intro count refused
    have answer : ∀ {t : State} {reply : Reply}, cmdCapture p f s = (t, reply) →
        exec (.capture p f) s = .next (t.replied p Command.capture.code f reply) :=
      fun hrun => State.takes_exec_of_run ht (by decide) hrun
    refine ⟨fun hbad => answer ?_, fun hpos hcount => ?_⟩
    · rw [cmdCapture]; exact if_pos hbad
    have hgood : ¬ (count = 0 ∨ 16 < count) := by omega
    refine ⟨fun hrange => answer ?_, fun first hsel hin => ?_⟩
    · rw [cmdCapture]
      refine (if_neg hgood).trans ?_
      cases hh : handleOf f.selector with
      | none => rfl
      | some first =>
        have hsel := handleOf_number hh
        have hnumber : first.number = first.val + 1 := rfl
        have hvalue : count = f.valueA.toNat := rfl
        exact if_pos (by omega)
    have htests : cmdCapture p f s = match (s.port p).capture with
        | .copying _ _ _ => s.refuse .captureBusy
        | _ => (s.onPort p (fun ps => { ps with capture := .copying first count [] }),
            ⟨.started, first.number, count, s.changeCount.toNat⟩) := by
      rw [cmdCapture]
      refine (if_neg hgood).trans ?_
      rw [handleOf_eq_some hsel]
      exact if_neg (by rw [← hsel]; exact Nat.not_lt.2 hin)
    refine ⟨fun g m l hc => answer ?_, fun hc => answer ?_⟩
    · rw [htests, hc]; rfl
    · rw [htests]
      cases hcap : (s.port p).capture with
      | copying g m l => exact absurd hcap (hc g m l)
      | idle | complete => rfl
  · intro refused
    have answer : ∀ {t : State} {reply : Reply}, cmdFlip p f s = (t, reply) →
        exec (.flip p f) s = .next (t.replied p Command.flip.code f reply) :=
      fun hrun => State.takes_exec_of_run ht (by decide) hrun
    refine ⟨fun g m l hc => answer ?_, fun hc => answer ?_, fun g i l z hc hz => answer ?_⟩
    · rw [cmdFlip, hc]; rfl
    · rw [cmdFlip, hc]; rfl
    · rw [cmdFlip, hc]
      simp only [hz]
      rfl
  · intro answers
    have answer : ∀ {reply : Reply}, cmdReadImage p f s = (s, reply) → answers reply :=
      fun hrun => State.takes_exec_of_run ht (by decide) hrun
    refine ⟨fun hbad => answer ?_, fun hgood => ?_⟩
    · rw [cmdReadImage, if_pos hbad]; rfl
    have htests : cmdReadImage p f s = match (s.port p).front with
        | none => s.refuse .nothingCaptured
        | some buffer =>
          match buffer.images[f.selector.toNat]? with
          | none => s.refuse .badRange
          | some i =>
            match i.part f.valueA.toNat with
            | none => s.refuse .badValue
            | some (a, b) => (s, ⟨.done, i.handle.number, a, b⟩) := by
      rw [cmdReadImage, if_neg (Nat.not_lt.2 hgood)] <;> rfl
    refine ⟨fun hfront => answer ?_, fun buffer hfront => ⟨fun hlong => answer ?_,
      fun i a b hi hpart => answer ?_⟩⟩
    · rw [htests, hfront]; rfl
    · rw [htests, hfront]
      simp only [List.getElem?_eq_none hlong]
      rfl
    · rw [htests, hfront]
      simp only [hi, hpart]

end Sys2Proof.Machine
end

section
/-! PROOFS. Endings and freeings whole, the health filter, the expiries, and the trips. -/

namespace Sys2Proof.Machine

/-! ## Notices put in place (R104, R105) -/

/-- A notice joins the end of its party's order where the one it replaces, if any, was owed to the
same party; the order is then not empty (R104, R105, R107). -/
theorem State.postNotice_owed {s : State} {h : Handle} {old : Option Notice} {c : Client}
    (reason : Reason) (hsame : ∀ n ∈ old, n.owedTo = c)
    (hout : old = none → h ∉ (s.port c.port).noticeOrder) :
    s.postNotice h old ⟨reason, c⟩ = s.onPort c.port (fun ps =>
      { ps with noticeOrder := ps.noticeOrder.erase h ++ [h], attnLow := true }) := by
  cases old with
  | some n =>
    obtain rfl := hsame n rfl
    exact s.postNotice_same_party h n reason
  | none =>
    have herase : (s.port c.port).noticeOrder.erase h = (s.port c.port).noticeOrder :=
      List.erase_of_not_mem (hout rfl)
    have hline : (!((s.port c.port).noticeOrder ++ [h]).isEmpty) = true := by simp
    have hjoin : (s.port c.port).withOrder ((s.port c.port).noticeOrder ++ [h]) =
        { s.port c.port with
          noticeOrder := (s.port c.port).noticeOrder.erase h ++ [h], attnLow := true } := by
      rw [PortState.withOrder, hline, herase]
    exact State.onPort_congr hjoin

/-- Where the orders are exact, a record without a notice stands in none (R102). -/
theorem State.NoticeOrdersExact.not_mem {s : State} (hs : s.NoticeOrdersExact) {h : Handle}
    (hn : (s.record h).notice? = none) (p : Port) : h ∉ (s.port p).noticeOrder := fun hmem => by
  have := ((hs p).2 h).1 hmem
  rw [Record.owes, hn] at this
  cases this

/-- A record's notice is owed to the party that its final notice would be owed to (R3, R5). -/
theorem Record.owedTo_of_fits {x : Record} (hx : x.noticeFits = true) {c : Client}
    (hc : x.owedParty? = some c) : ∀ n ∈ x.notice?, n.owedTo = c := by
  intro n hn
  cases x with
  | free | waiting => cases hn
  | granted b c' t d k m | tripped b c' t d k m =>
    cases hn; cases hc
    simp only [Record.noticeFits, Option.all_some, Bool.and_eq_true, decide_eq_true_eq] at hx
    exact hx.2
  | deviceTripped b k m | held b k m => cases hn; cases hc; rfl
  | ended b m => cases hn; cases hc; rfl

theorem Record.notice?_of_unowed {x : Record} (hc : x.owedParty? = none) : x.notice? = none := by
  cases x with
  | free | waiting => rfl
  | granted | tripped | ended => cases hc
  | deviceTripped b k m | held b k m => exact Option.map_eq_none_iff.1 hc

/-! ## Ending and freeing (R5, R6) -/

/-- A committing record drives its channel, which its end turns off (R87). -/
theorem State.ChannelsFollowRecords.turnOff {s : State} (hs : s.ChannelsFollowRecords) {h : Handle}
    {b : Booking} (hc : (s.record h).isCommitting = true) (hb : (s.record h).booking? = some b) :
    (s.channel b.output).turnOff = { s.channel b.output with
      state := .off, enableHigh := false, retryTimer := none, tripRaised := false } := by
  have hcov : (s.record h).covers b.output = true := by simp [Record.covers, hc, hb]
  have hkind : (s.record h).isOn = true ∨ (s.record h).isTripped = true := by
    revert hc
    cases s.record h <;> simp [Record.isCommitting, Record.isOn, Record.isTripped]
  rcases hkind with hon | htripped
  · simp only [Channel.turnOff, (hs b.output).1.2 ⟨h, hcov, hon⟩]
  · simp only [Channel.turnOff, (hs b.output).2.2 ⟨h, hcov, htripped⟩]

/-- What a record gives up, by its state (R5, R6). -/
theorem State.withdraw_eq {s : State} (hs : s.ChannelsFollowRecords) {h : Handle} {b : Booking}
    (hb : (s.record h).booking? = some b) : s.withdraw h =
      if (s.record h).isCommitting then
        (s.onRail b.rail (fun a =>
          { a with committed := a.committed - b.current, grantOrder := a.grantOrder.erase h })
          ).onChannel b.output (fun c =>
            { c with state := .off, enableHigh := false, retryTimer := none, tripRaised := false })
      else if (s.record h).isWaiting then
        s.onRail b.rail (fun a => { a with waiting := a.waiting.erase h })
      else s := by
  rw [State.withdraw, hb]
  dsimp only
  split
  · next hc => exact State.onChannel_congr (hs.turnOff hc hb)
  · rfl

/-- Settles O32: what is given up by the record's state, and the final notice by its party. -/
theorem endingAndFreeing : Obligations.EndingAndFreeing := by
  refine ⟨fun r => ?_, fun s h b hexact hattn hfits hfollow hb => ?_⟩
  · cases r with
    | free | waiting | granted | tripped | ended => rfl
    | deviceTripped b k n | held b k n => cases n <;> rfl
  · intro gone
    have hgone : s.withdraw h = gone := State.withdraw_eq hfollow hb
    have hport : ∀ q, gone.port q = s.port q := fun q => by rw [← hgone, State.withdraw_port]
    have hfreed : (s.record h).notice? = none → s.freeRecord h = gone.setRecord h .free := fun hn => by
      rw [State.freeRecord, hn, hgone]; rfl
    refine ⟨fun c reason hended hc => ?_, fun reason hc => ?_, hfreed, fun n hn => ?_⟩
    · rw [State.endRecord_of_owed reason hb hc, hgone, State.postNotice_owed reason
        (Record.owedTo_of_fits (hfits h) hc) fun hn => by rw [hport]; exact hexact.not_mem hn c.port]
    · rw [State.endRecord_of_unowed reason hc, hfreed (Record.notice?_of_unowed hc)]
    · rw [State.freeRecord, hn, hgone]; rfl

/-! ## The health filter (R33 to R35) -/

/-- A candidate shown for the filter time is taken, with the limit change that follows (R35). -/
theorem State.takeCandidate_passed {s : State} {r : Rail} {c : Candidate}
    (hc : (s.rail r).candidate = some c) (hle : (s.rail r).filterTime ≤ c.shown) :
    s.takeCandidate r = ((s.onRail r (fun a => { a with health := c.level, candidate := none })
      ).limitChange r (s.rail r).limit).1 := by
  simp only [State.takeCandidate, hc, if_pos hle]
  rw [State.onRail_congr (g := fun a => { a with health := c.level, candidate := none })
    (Account.judgeCandidate_of_passed hc hle)]

/-- No other is taken (log 17). -/
theorem State.takeCandidate_not_passed {s : State} {r : Rail}
    (h : ∀ c, (s.rail r).candidate = some c → c.shown < (s.rail r).filterTime) :
    s.takeCandidate r = s := by
  unfold State.takeCandidate
  split
  · rfl
  · next c hc => exact if_neg (Nat.not_le.2 (h c hc))

/-- A reading that is the health level abandons the candidate (R34). -/
theorem State.judgeReading_agrees {s : State} {r : Rail}
    (h : (s.rail r).reading = (s.rail r).health) :
    s.judgeReading r = s.onRail r (fun a => { a with candidate := none }) := by
  simp only [State.judgeReading, if_pos h]

/-- A reading that the candidate shows keeps it (R34). -/
theorem State.judgeReading_shown {s : State} {r : Rail} {n : Nat}
    (h : (s.rail r).reading ≠ (s.rail r).health)
    (hc : (s.rail r).candidate = some ⟨(s.rail r).reading, n⟩) : s.judgeReading r = s := by
  simp only [State.judgeReading, if_neg h, hc, Option.any_some, decide_true, if_true]

/-- Any other reading starts a candidate, which is taken where the filter time is 0 (R34). -/
theorem State.judgeReading_new {s : State} {r : Rail}
    (h : (s.rail r).reading ≠ (s.rail r).health)
    (hc : ∀ n, (s.rail r).candidate ≠ some ⟨(s.rail r).reading, n⟩) :
    s.judgeReading r =
      (s.onRail r (fun a => { a with candidate := some ⟨a.reading, 0⟩ })).takeCandidate r := by
  have hnone : (s.rail r).candidate.any (fun c => c.level = (s.rail r).reading) = false := by
    cases hcand : (s.rail r).candidate with
    | none => rfl
    | some c =>
      refine decide_eq_false fun hlevel => hc c.shown ?_
      rw [hcand, ← hlevel]
  simp only [State.judgeReading, if_neg h, hnone, Bool.false_eq_true, if_false]

/-- Settles O34: the filter's comparison by the reading and the candidate, and the candidate by the
time it was shown. -/
theorem healthFilterRuns : Obligations.HealthFilterRuns := by
  intro s r
  refine ⟨fun present full => ?_, fun c hm hc hle => ?_, fun hnot => ?_⟩
  · intro reading pins
    have hpins : pins.rail r = { s.rail r with present := present, full := full } :=
      State.onRail_rail_same ..
    have hreading : (pins.rail r).reading = reading := by rw [hpins]; rfl
    have hhealth : (pins.rail r).health = (s.rail r).health := by rw [hpins]
    have hcandidate : (pins.rail r).candidate = (s.rail r).candidate := by rw [hpins]
    have judged : s.mode ≠ .loading →
        exec (.healthInputChange r present full) s = .next (pins.judgeReading r) := fun hm => by
      simp only [exec, execHealthInputChange, if_neg hm, pins]
    have started : s.mode ≠ .loading → reading ≠ (s.rail r).health →
        (∀ n, (s.rail r).candidate ≠ some ⟨reading, n⟩) →
        exec (.healthInputChange r present full) s = .next ((s.onRail r (fun a =>
          { a with present := present, full := full, candidate := some ⟨reading, 0⟩ })
        ).takeCandidate r) :=
      fun hm hne hc => by
        rw [judged hm, State.judgeReading_new (by rw [hreading, hhealth]; exact hne)
          (by rw [hreading, hcandidate]; exact hc), State.onRail_onRail]
        rfl
    refine ⟨fun hm => ?_, fun hm heq => ?_, fun hm hne hshown => ?_, fun hm hne hc hpos => ?_,
      fun hm hne hc hzero => ?_⟩
    · simp only [exec, execHealthInputChange, if_pos hm, pins]
    · rw [judged hm, State.judgeReading_agrees (by rw [hreading, hhealth]; exact heq),
        State.onRail_onRail]
    · obtain ⟨n, hn⟩ := hshown
      rw [judged hm, State.judgeReading_shown (n := n) (by rw [hreading, hhealth]; exact hne)
        (by rw [hreading, hcandidate]; exact hn)]
    · rw [started hm hne hc, State.takeCandidate_not_passed fun c hcand => ?_]
      rw [State.onRail_rail_same] at hcand ⊢
      cases hcand
      exact hpos
    · rw [started hm hne hc, State.takeCandidate_passed (c := ⟨reading, 0⟩)
        (by rw [State.onRail_rail_same]) (by rw [State.onRail_rail_same]; exact hzero.le),
        State.onRail_onRail, State.onRail_rail_same]
      rfl
  · have hexec : exec (.healthLevelTaken r) s = .next (s.takeCandidate r) := by
      simp only [exec, execHealthLevelTaken, if_neg hm]
    rw [hexec, State.takeCandidate_passed hc hle]
  · simp only [exec, execHealthLevelTaken]
    split
    · rfl
    · next hm =>
      rw [State.takeCandidate_not_passed fun c hc => ?_]
      rcases hnot with h | h | ⟨c', hc', hlt⟩
      · exact absurd h hm
      · rw [h] at hc; cases hc
      · rw [hc'] at hc; cases hc; exact hlt

/-! ## Expiries (R58, R68 to R71) -/

/-- Settles O47: the record and its countdown, and the lapse action. -/
theorem expiriesEndOrHold : Obligations.ExpiriesEndOrHold := by
  refine ⟨fun s h => ⟨fun b c term hx => ?_, fun hx => ?_⟩, fun s h hexact hfits => ?_⟩
  · simp only [exec, execPatienceExpiry, hx]
  · simp only [exec, execPatienceExpiry]
  · intro owed
    have hpost : ∀ {c : Client} {n : Option Notice}, (s.record h).owedParty? = some c →
        (s.record h).notice? = n → s.postNotice h n ⟨.lapsedHeld, c⟩ = owed c := fun {c n} hc hn =>
      State.postNotice_owed _ (hn ▸ Record.owedTo_of_fits (hfits h) hc)
        fun hnone => hexact.not_mem (hn.trans hnone) c.port
    refine ⟨fun b c term k n hx hoff => ?_, fun b c term k n hx hhold => ?_,
      fun b c term k n hx hhold => ?_, fun hx => ?_⟩
    · rcases hx with hx | hx
      · simp only [exec, execLapse, hx, hoff]
      · simp only [exec, execLapse, hx, hoff]
    · simp only [exec, execLapse, hx, hhold]
      rw [hpost (by rw [hx]; rfl) (by rw [hx]; rfl)]
    · simp only [exec, execLapse, hx, hhold]
      rw [hpost (by rw [hx]; rfl) (by rw [hx]; rfl)]
    · simp only [exec, execLapse]
      split
      · next b c term k n hg => exact absurd hg (hx b c term k n).1
      · next b c term k n htr => exact absurd htr (hx b c term k n).2
      · rfl

/-! ## Trips and the end of the retry delay (R88 to R94) -/

theorem Record.output_of_covers {x : Record} {n : Output} {b : Booking} (hc : x.covers n = true)
    (hb : x.booking? = some b) : b.output = n := by
  simp only [Record.covers, hb, Option.any_some, Bool.and_eq_true, decide_eq_true_eq] at hc
  exact hc.2

/-- Settles O48: the record that covers the output, and its retries. -/
theorem tripsAndRestarts : Obligations.TripsAndRestarts := by
  refine ⟨fun s n hexact hfits honce => ?_, fun s n honce => ?_⟩
  · intro retrying
    refine ⟨fun hno => ?_, fun h hraised hcov => ?_⟩
    · simp only [exec, execTrip, hno, Bool.false_eq_true, if_false]
    have hexec : exec (.trip n) s = .next (s.tripRecord h) := by
      simp only [exec, execTrip, hraised, if_true, honce.covering_eq_some hcov]
    have hretry : ∀ {b : Booking}, (s.record h).booking? = some b → s.startRetry b = retrying :=
      fun hb => by rw [State.startRetry, Record.output_of_covers hcov hb]; rfl
    refine ⟨fun b c term d k m hx => ?_, fun b k m hx => ?_, fun b c term d m hx => ?_⟩
    · rw [hexec, State.tripRecord]
      simp only [hx]
      have hparty : (s.record h).owedParty? = some c := by rw [hx]; rfl
      have hnotice : (s.record h).notice? = m := by rw [hx]; rfl
      rw [hretry (by rw [hx]; rfl), State.postNotice_owed (s := retrying) _
        (hnotice ▸ Record.owedTo_of_fits (hfits h) hparty)
        fun hnone => hexact.not_mem (hnotice.trans hnone) c.port]
    · rw [hexec, State.tripRecord]
      simp only [hx]
      rw [hretry (by rw [hx]; rfl)]
    · rcases hx with hx | hx
      · rw [hexec, State.tripRecord]
        simp only [hx]
        rfl
      · rw [hexec, State.tripRecord]
        simp only [hx]
        rfl
  · intro on
    refine ⟨fun hno => ?_, fun h htimer hcov => ?_⟩
    · simp only [exec, execRetryDelayEnd, if_neg hno]
    have hexec : (s.record h).isTripped = true → exec (.retryDelayEnd n) s =
        .next (on.setRecord h (s.record h).restarted).countChange := fun ht => by
      simp only [exec, execRetryDelayEnd, htimer, if_true, honce.covering_eq_some hcov, ht]
      rfl
    refine ⟨fun b c term d k m hx => ?_, fun b k m hx => ?_⟩
    · rw [hexec (by rw [hx]; rfl), hx]; rfl
    · rw [hexec (by rw [hx]; rfl), hx]; rfl

end Sys2Proof.Machine
end

section
/-! PROOFS. Who takes a FREE record: REQUEST alone, and the lowest (R4, 2.6). -/

namespace Sys2Proof.Machine

theorem doer_ne_command (i : Instr) (c : Command) (p : Port) : doer i ≠ .command c p := by
  unfold doer
  split
  · exact nofun
  · exact nofun

@[simp] theorem State.endFrame_record (s : State) (p : Port) (reg : ReplyRegister)
    (last : Option Bool) (h : Handle) : (s.endFrame p reg last).record h = s.record h :=
  State.onPort_record ..

theorem State.endFrame_register (s : State) (p : Port) (reg : ReplyRegister)
    (last : Option Bool) : ((s.endFrame p reg last).port p).register = reg := by
  rw [State.endFrame, State.onPort_port_same]

/-- Record `h` is taken for party `c`: it is the lowest FREE one, and no other is taken with it. -/
structure State.TakesLowest (s t : State) (h : Handle) (c : Client) : Prop where
  holder : (t.record h).holder? = some (.client c)
  lower : ∀ k, k < h → t.record k ≠ .free
  others : ∀ k, k ≠ h → s.record k = .free → t.record k = .free

/-- The lowest FREE record written for a party is taken. -/
theorem State.TakesLowest.write {s t : State} {h : Handle} {c : Client} {y : Record}
    (hfree : s.lowestFree = some h) (hrec : ∀ k, t.record k = if h = k then y else s.record k)
    (hy : y.holder? = some (.client c)) : s.TakesLowest t h c where
  holder := by rw [hrec, if_pos rfl]; exact hy
  lower k hk := by
    rw [hrec, if_neg hk.ne']
    exact fun he => Bool.false_ne_true
      (((State.lowestFree_eq_some.1 hfree).2 k hk).symm.trans (Record.isFree_iff.2 he))
  others k hk he := by rw [hrec, if_neg fun h => hk h.symm]; exact he

theorem State.scan_holder (s : State) (r : Rail) (k : Handle) :
    ((s.scan r).record k).holder? = (s.record k).holder? :=
  State.scan_keeps (P := fun t => (t.record k).holder? = (s.record k).holder?)
    (fun h hx _ => (State.grantWaiter_record_apply Record.holder? hx (fun _ _ => rfl) k).trans h)
    rfl

/-- A scan takes no record and frees none. -/
theorem State.TakesLowest.scan {s t : State} {h : Handle} {c : Client} (ht : s.TakesLowest t h c)
    (r : Rail) : s.TakesLowest (t.scan r) h c where
  holder := (t.scan_holder r h).trans ht.holder
  lower k hk he := ht.lower k hk (Record.booking?_eq_none (by rw [← t.scan_booking r, he]; rfl))
  others k hk he := State.scan_free (ht.others k hk he) r

/-- A claim takes the record that is lowest once the old one has given way (R78). -/
theorem State.handOver_takes {s : State} {p : Port} {f : Fields} {o : Output} {old h0 : Handle}
    {held : Booking} (hadm : s.Admits p f o h0) (hdevice : (s.record old).isDeviceHeld = true) :
    ∃ h, s.TakesLowest (s.handOver p f o old held h0).1 h (clientOf p f)
      ∧ (s.handOver p f o old held h0).2.status = .granted
      ∧ (s.handOver p f o old held h0).2.handle = h.number := by
  have hold : ∀ k, s.record k = .free → (s.giveWay old held).record k = .free := fun k hk => by
    rw [State.giveWay_record_ne s held fun he : k = old =>
      Record.ne_free_of_isDeviceHeld hdevice (he ▸ hk)]
    exact hk
  have hfree := hold h0 (Record.isFree_iff.1 (State.lowestFree_eq_some.1 hadm.free).1)
  obtain ⟨h, hh⟩ := State.exists_lowestFree ⟨h0, hfree⟩
  rw [State.handOver_eq hh]
  have htaken := State.TakesLowest.write (c := clientOf p f) (t := ((s.giveWay old held).setRecord h
      (if (s.record old).isTripped then s.claimedTripped p f (s.asked f o)
        else s.grantedRecord p f (s.asked f o))).joinGrants h (s.asked f o)) hh
    (fun k => by rw [State.joinGrants_record, State.setRecord_record]) (by split <;> rfl)
  have hscan := htaken.scan (s.outputRow o).rail
  exact ⟨h, ⟨hscan.holder, hscan.lower, fun k hk he => hscan.others k hk (hold k he)⟩, rfl, rfl⟩

/-- A REQUEST writes nothing, or takes the lowest FREE record and says so. -/
theorem cmdRequest_takes (p : Port) (f : Fields) {s : State} (hmode : s.mode = .service) :
    (cmdRequest p f s).1 = s ∨ ∃ h, s.TakesLowest (cmdRequest p f s).1 h (clientOf p f)
      ∧ ((cmdRequest p f s).2.status = .granted ∨ (cmdRequest p f s).2.status = .waiting)
      ∧ (cmdRequest p f s).2.handle = h.number := by
  refine cmdRequest_induction (P := fun x => x.1 = s ∨ ∃ h, s.TakesLowest x.1 h (clientOf p f)
    ∧ (x.2.status = .granted ∨ x.2.status = .waiting) ∧ x.2.handle = h.number) p f hmode
    (fun _ => .inl rfl) (fun {o h} hadm _ _ => .inr ⟨h, ?_, .inl rfl, rfl⟩)
    (fun {o h v} hadm _ _ => .inr ⟨h, ?_, .inr rfl, rfl⟩) fun hadm _ hdevice _ _ => .inr ?_
  · exact .write hadm.free (fun k => by
      rw [State.countChange_record, State.onChannel_record, State.joinGrants_record,
        State.setRecord_record]) rfl
  · exact .write hadm.free (fun k => by
      rw [State.countChange_record, State.setRecord_record, State.enterList_record]) rfl
  · obtain ⟨h, htakes, hstatus, hhandle⟩ := State.handOver_takes hadm hdevice
    exact ⟨h, htakes, .inl hstatus, hhandle⟩

/-- Settles O11: every act but those of a REQUEST keeps a FREE record FREE. -/
theorem onlyRequestTakesRecords : Obligations.OnlyRequestTakesRecords := by
  intro i s t h ht hfree htaken
  cases hp : framePort? i with
  | none =>
    obtain ⟨u, hu, hdoes⟩ := exec_of_not_frame hp s
    rw [ht] at hu
    cases hu
    rcases hdoes with hacts | hstore | ⟨cause, -, rfl⟩
    · exact absurd (hacts.keepsFree (fun _ p => doer_ne_command i _ p) hfree) htaken
    · exact absurd ((hstore.acts.keepsTable.records h).trans hfree) htaken
    · exact absurd (s.coldReset_record cause h) htaken
  | some p =>
    rcases frame_ends hp ht with ⟨c, f, hc⟩ | rfl | ⟨reg, last, -, rfl⟩
    · rw [hc.exec_eq] at ht
      cases ht
      simp only [State.endFrame_record] at htaken ⊢
      rcases State.run_acts p f hc.taken with hacts | hstore
      · by_cases hreq : c = .request
        · subst hreq
          have hmode : s.mode = .service := by simpa [Command.takenIn] using hc.taken
          rcases cmdRequest_takes p f hmode with hsame | ⟨h', htakes, hstatus, hhandle⟩
          · exact absurd ((congrArg (State.record · h) hsame).trans hfree) htaken
          · obtain rfl : h = h' := by_contra fun hne => htaken (htakes.others h hne hfree)
            refine ⟨htakes.lower, p, f.tag, htakes.holder, ?_, ?_, ?_⟩
            · rw [State.endFrame_register]
            · rw [State.endFrame_register]; exact hstatus
            · rw [State.endFrame_register]; exact hhandle
        · exact absurd (hacts.keepsFree (fun _ q he => hreq (by cases he; rfl)) hfree) htaken
      · exact absurd ((hstore.acts.keepsTable.records h).trans hfree) htaken
    · exact absurd hfree htaken
    · exact absurd ((State.endFrame_record ..).trans hfree) htaken

end Sys2Proof.Machine
end

section
/-! PROOFS. The change count and the writes of the records (R7). -/

namespace Sys2Proof.Machine

/-- The change count has advanced by one, or no record has been written (R7). -/
def State.MarksWrites (s t : State) : Prop :=
  t.changeCount = s.changeCount + 1 ∨ t.changeCount = s.changeCount ∧ t.records = s.records

theorem State.MarksWrites.refl (s : State) : s.MarksWrites s := .inr ⟨rfl, rfl⟩

theorem State.TableOnly.marksWrites {s t : State} (h : s.TableOnly t) :
    s.MarksWrites t.countChange :=
  .inl (by rw [State.countChange_changeCount, h.changeCount])

theorem State.records_ext {s t : State} (h : ∀ k, t.record k = s.record k) :
    t.records = s.records := by
  refine Vector.ext fun k hk => ?_
  have hget := h ⟨k, hk⟩
  rwa [State.record, State.record, Vector.get_eq_getElem, Vector.get_eq_getElem] at hget

/-- A scan that leaves the waiting list as it was has granted nobody (R52). -/
theorem State.WaitingListsExact.scan_eq_self {s : State} (hs : s.WaitingListsExact)
    (hm : s.mode = .service) {r : Rail}
    (hsame : ((s.scan r).rail r).waiting = (s.rail r).waiting) : s.scan r = s := by
  obtain ⟨granted, rest, hw, hg, -⟩ := hs.scan_grantsAlong hm r
  rw [hg.rail hw, hw] at hsame
  obtain rfl : granted = [] := by simpa using hsame
  generalize s.scan r = t at hg ⊢
  cases hg
  rfl

/-- What follows a change of a limit counts where it writes a record (R36, R7). -/
theorem State.limitChange_marksWrites {s : State} (hw : s.WaitingListsExact)
    (hg : s.GrantOrdersExact) (r : Rail) (old : Nat) : s.MarksWrites (s.limitChange r old).1 := by
  obtain ⟨outside, above, raised, kept⟩ := limitChangeActs s r old hg
  by_cases hm : s.mode = .service
  · rcases Nat.lt_or_ge (s.rail r).limit (s.rail r).committed with hover | hwithin
    · rw [above hm hover]
      exact ((s.revoke_tableOnly r).trans (State.scan_tableOnly _ r)).marksWrites
    · rcases Nat.lt_or_ge old (s.rail r).limit with hraised | hkept
      · rw [raised hm hwithin hraised]
        dsimp only
        split
        · next hsame => rw [hw.scan_eq_self hm hsame]; exact .refl s
        · exact (s.scan_tableOnly r).marksWrites
      · rw [kept hm hwithin hkept]; exact .refl s
  · rw [outside hm]; exact .refl s

/-- Every act but the tick of the countdowns counts where it writes a record. -/
theorem State.ActsBy.marksWrites {s t : State} {w : Doer} (hs : s.TableLaws) (hw : w ≠ .tick)
    (h : s.ActsBy w t) : s.MarksWrites t := by
  cases h.writes with
  | nothing => exact .refl s
  | table hu => exact hu.marksWrites
  | restart => exact .inl (by rw [State.restarted_eq])
  | tick => exact absurd rfl hw
  | @limit _ r g old hg =>
    have hlists : s.SameLists (s.onRail r g) :=
      s.onRail_sameLists r fun a => by rw [hg]; exact ⟨rfl, rfl, rfl⟩
    exact State.limitChange_marksWrites (s := s.onRail r g)
      (hs.waiting.congr (fun k => (hlists k).1) fun _ => rfl)
      (hs.grants.congr (fun k => (hlists k).2.1) (fun k => (hlists k).2.2) fun _ => rfl) r old
  | inputs | channels | stage => exact .inr ⟨rfl, rfl⟩
  | pins | setting =>
    exact .inr ⟨State.onPort_changeCount .., State.records_ext fun k => State.onPort_record ..⟩

/-- The store does not count: it writes no record (R7). -/
theorem State.StoreActs.marksWrites {s t : State} (h : s.StoreActs t) : s.MarksWrites t := by
  refine .inr ⟨?_, State.records_ext h.keepsTable.records⟩
  obtain ⟨_, h⟩ := h
  cases h with
  | write | reload => exact State.onPort_changeCount ..
  | openPart | closePart | readRow | resetEnd => rfl
  | endLoad => rw [State.endLoad_eq]; rfl
  | complete => rw [State.completed_eq, State.stored_eq]

theorem State.MarksWrites.endFrame {s u : State} (h : s.MarksWrites u) (p : Port)
    (reg : ReplyRegister) (last : Option Bool) : s.MarksWrites (u.endFrame p reg last) := by
  have hcount : (u.endFrame p reg last).changeCount = u.changeCount := State.onPort_changeCount ..
  have hrecords : (u.endFrame p reg last).records = u.records :=
    State.records_ext (u.endFrame_record p reg last)
  rw [State.MarksWrites, hcount, hrecords]
  exact h

/-- Settles O13: the tick is the one act that writes records and does not count. -/
theorem changeCountMarksWrites : Obligations.ChangeCountMarksWrites := by
  intro i s t hs hreset ht
  have marked : s.MarksWrites t → t.changeCount = s.changeCount + 1 ∨ t.changeCount = s.changeCount
      ∧ (t.records = s.records ∨ ∃ due, i = .termTimerTick due) :=
    fun h => h.imp_right (And.imp_right .inl)
  cases hp : framePort? i with
  | none =>
    obtain ⟨u, hu, hdoes⟩ := exec_of_not_frame hp s
    rw [ht] at hu
    cases hu
    rcases hdoes with hacts | hstore | ⟨cause, hcause, -⟩
    · by_cases htick : ∃ due, i = .termTimerTick due
      · obtain ⟨due, rfl⟩ := htick
        rw [show exec (.termTimerTick due) s = .next ((s.runCountdowns due.countdowns).runFilters
          due.filters) from rfl] at ht
        cases ht
        exact .inr ⟨by rw [State.runFilters_eq, State.runCountdowns_eq], .inr ⟨due, rfl⟩⟩
      · refine marked (hacts.marksWrites hs.tableLaws fun hw => htick ?_)
        unfold doer at hw
        split at hw
        · exact ⟨_, rfl⟩
        · cases hw
    · exact marked hstore.acts.marksWrites
    · exact absurd hcause (hreset cause)
  | some p =>
    refine marked ?_
    rcases frame_ends hp ht with ⟨c, f, hc⟩ | rfl | ⟨reg, last, -, rfl⟩
    · rw [hc.exec_eq] at ht
      cases ht
      rcases State.run_acts p f hc.taken with hacts | hstore
      · exact (hacts.marksWrites hs.tableLaws (by exact nofun)).endFrame ..
      · exact hstore.acts.marksWrites.endFrame ..
    · exact .refl _
    · exact (State.MarksWrites.refl s).endFrame ..

end Sys2Proof.Machine
end

section
/-! PROOFS. What a frame on one port does to the other (R124, R149, R151). -/

namespace Sys2Proof.Machine

/-- Port `q` is in `t` as it is in `s`, but for its notice order and its ATTN line. -/
def State.NoticesAlone (s t : State) (q : Port) : Prop :=
  t.port q = { s.port q with
    noticeOrder := (t.port q).noticeOrder, attnLow := (t.port q).attnLow }

theorem State.NoticesAlone.ofSame {s t : State} {q : Port} (h : t.port q = s.port q) :
    s.NoticesAlone t q := by rw [State.NoticesAlone, h]

theorem State.limitChange_noticesAlone (s : State) (r : Rail) (old : Nat) (q : Port) :
    s.NoticesAlone (s.limitChange r old).1 q := by
  obtain ⟨u, hu, hlimit⟩ := s.limitChange_tableOnly r old
  rcases hlimit with h | h
  · rw [h]; exact hu.ports q
  · rw [h]; exact hu.ports q

/-- An act of a command on one port writes of the other its notices alone, but for RESTART. -/
theorem State.ActsBy.noticesAlone {s t : State} {c : Command} {p : Port}
    (h : s.ActsBy (.command c p) t) (hc : c ≠ .restart) : s.NoticesAlone t p.other := by
  cases h.writes with
  | nothing | inputs => exact .ofSame rfl
  | table hu => exact hu.ports p.other
  | restart => exact absurd rfl hc
  | @limit _ r g => exact (s.onRail r g).limitChange_noticesAlone _ _ _
  | channels => exact .ofSame (State.withChannels_port ..)
  | setting hw =>
    rcases hw with hw | ⟨c', hw⟩
    · cases hw
    · cases hw; exact .ofSame (s.onPort_port_other p _)
  | stage => exact .ofSame (by cases p <;> rfl)

/-- An act of the store by a command on one port leaves the other as it is, but for CLOSE. -/
theorem State.StoreActsBy.port_other {s t : State} {c : Command} {p : Port}
    (h : s.StoreActsBy (.command c p) t) (hc : c ≠ .closePart) :
    t.port p.other = s.port p.other := by
  cases h with
  | write | reload => exact (State.onPort_port_other ..).trans (by cases p <;> rfl)
  | openPart => cases p <;> rfl
  | closePart => exact absurd rfl hc

/-- Settles O14: a command writes its own port and the table, and the frame ends at its own port. -/
theorem portsKeepApart : Obligations.PortsKeepApart := by
  intro i p s t hp ht
  have ended : ∀ (u : State) reg last, (u.endFrame p reg last).port p.other = u.port p.other :=
    fun u reg last => u.onPort_port_other p _
  have carried : ∀ {c f}, s.CarriesOut i p c f → t.port p.other = (s.run c p f).1.port p.other :=
    fun hc => by
      rw [hc.exec_eq] at ht
      cases ht
      exact ended _ _ _
  refine ⟨fun hnot => ?_, fun ⟨f, hc⟩ => ⟨fun hfree => ?_, fun htaken => ?_⟩, fun ⟨f, hc⟩ => ?_⟩
  · rcases frame_ends hp ht with ⟨c, f, hc⟩ | rfl | ⟨reg, last, -, rfl⟩
    · obtain ⟨hclose, hrestart⟩ := hnot f
      rw [carried hc]
      rcases State.run_acts p f hc.taken with hacts | hstore
      · exact hacts.noticesAlone fun he => hrestart (he ▸ hc)
      · exact State.NoticesAlone.ofSame (hstore.port_other fun he => hclose (he ▸ hc))
    · rfl
    · rw [ended]
  · rw [carried hc, State.run, cmdClose_done p f hfree]
    cases p <;> rfl
  · rw [carried hc, State.run, cmdClose_notEmpty p f htaken]
  · rw [carried hc, State.run, cmdRestart_eq, State.restarted_port]
    rfl

end Sys2Proof.Machine
end
